-- ==== Sys2Proof/Word.lean ====
section
/-! DEFINITION. The two word types of the machine (00_scope.md R6): bytes and 16-bit words. -/

namespace Sys2Proof

/-- `u8` of 00_scope.md R8: an 8-bit value. -/
abbrev Byte := BitVec 8

/-- `u16` of 00_scope.md R8: a 16-bit value, an address or a register pair. -/
abbrev Word := BitVec 16

end Sys2Proof
end

