-- ==== Sys2Proof/Syntax.lean ====
section
/-! DEFINITION. The instruction set as syntax: the operand codes of 30_encoding.md R124 to R128, one constructor per
mnemonic of spec/opcode_table.json, and the families of constructors as functions of their operand codes. -/

namespace Sys2Proof

/-- The seven 8-bit registers (10_state.md R21). -/
inductive Reg8 where
  | b | c | d | e | h | l | a
  deriving DecidableEq, Repr

/-- An 8-bit operand code (30_encoding.md R124): a register, or code 6, the byte at address HL. -/
inductive Operand where
  | reg (r : Reg8)
  | indHl
  deriving DecidableEq, Repr

/-- The source operand of the 8-bit operations (42_alu8.md R250). -/
inductive Source where
  | reg (r : Reg8)
  | indHl
  | imm (n : Byte)
  deriving DecidableEq, Repr

/-- The 16-bit registers of 00_scope.md R9. -/
inductive Reg16 where
  | af | bc | de | hl | sp
  deriving DecidableEq, Repr

/-- Table `rp` of 30_encoding.md R125. -/
inductive Pair where
  | bc | de | hl | sp
  deriving DecidableEq, Repr

/-- Table `rp2` of 30_encoding.md R125. -/
inductive StackPair where
  | bc | de | hl | af
  deriving DecidableEq, Repr

/-- A condition (30_encoding.md R126). -/
inductive Cond where
  | nz | z | nc | c
  deriving DecidableEq, Repr

/-- An 8-bit ALU operation (30_encoding.md R127). -/
inductive AluOp where
  | add | adc | sub | sbc | and | xor | or | cp
  deriving DecidableEq, Repr

/-- A rotate or shift of the extended table (30_encoding.md R128). -/
inductive RotOp where
  | rlc | rrc | rl | rr | sla | sra | swap | srl
  deriving DecidableEq, Repr

/-- The decode table an error names (60_exceptions.md R401). -/
inductive DecodeTable where
  | primary | extended
  deriving DecidableEq, Repr

/-- The instructions, each under its row's mnemonic: first those with operand bytes, then those without, both in the order
of spec/opcode_table.json (the compiler wants constructors that carry data early). Operands: `n` an 8-bit
immediate or high-page offset, `e` the byte of a signed displacement, `nn` a 16-bit immediate or address, `op` the opcode
of an invalid slot. -/
inductive Instr where
  | ldBcD16 (nn : Word) | ldBD8 (n : Byte) | ldIndA16Sp (nn : Word) | ldCD8 (n : Byte) | ldDeD16 (nn : Word)
  | ldDD8 (n : Byte) | jrR8 (e : Byte) | ldED8 (n : Byte) | jrNzR8 (e : Byte) | ldHlD16 (nn : Word)
  | ldHD8 (n : Byte) | jrZR8 (e : Byte) | ldLD8 (n : Byte) | jrNcR8 (e : Byte) | ldSpD16 (nn : Word)
  | ldIndHlD8 (n : Byte) | jrCR8 (e : Byte) | ldAD8 (n : Byte) | jpNzA16 (nn : Word) | jpA16 (nn : Word)
  | callNzA16 (nn : Word) | addAD8 (n : Byte) | jpZA16 (nn : Word) | callZA16 (nn : Word) | callA16 (nn : Word)
  | adcAD8 (n : Byte) | jpNcA16 (nn : Word)
  /-- One of the eleven invalid slots (30_encoding.md R133). -/
  | invalid (op : Byte)
  | callNcA16 (nn : Word) | subD8 (n : Byte) | jpCA16 (nn : Word) | callCA16 (nn : Word) | sbcAD8 (n : Byte)
  | ldhIndA8A (n : Byte) | andD8 (n : Byte) | addSpR8 (e : Byte) | ldIndA16A (nn : Word) | xorD8 (n : Byte)
  | ldhAIndA8 (n : Byte) | orD8 (n : Byte) | ldHlSpR8 (e : Byte) | ldAIndA16 (nn : Word) | cpD8 (n : Byte) | nop
  | ldIndBcA | incBc | incB | decB | rlca | addHlBc | ldAIndBc | decBc | incC | decC | rrca | stop | ldIndDeA
  | incDe | incD | decD | rla | addHlDe | ldAIndDe | decDe | incE | decE | rra | ldIndHlIncA | incHl | incH | decH
  | daa | addHlHl | ldAIndHlInc | decHl | incL | decL | cpl | ldIndHlDecA | incSp | incIndHl | decIndHl | scf
  | addHlSp | ldAIndHlDec | decSp | incA | decA | ccf | ldBB | ldBC | ldBD | ldBE | ldBH | ldBL | ldBIndHl | ldBA
  | ldCB | ldCC | ldCD | ldCE | ldCH | ldCL | ldCIndHl | ldCA | ldDB | ldDC | ldDD | ldDE | ldDH | ldDL | ldDIndHl
  | ldDA | ldEB | ldEC | ldED | ldEE | ldEH | ldEL | ldEIndHl | ldEA | ldHB | ldHC | ldHD | ldHE | ldHH | ldHL
  | ldHIndHl | ldHA | ldLB | ldLC | ldLD | ldLE | ldLH | ldLL | ldLIndHl | ldLA | ldIndHlB | ldIndHlC | ldIndHlD
  | ldIndHlE | ldIndHlH | ldIndHlL | halt | ldIndHlA | ldAB | ldAC | ldAD | ldAE | ldAH | ldAL | ldAIndHl | ldAA
  | addAB | addAC | addAD | addAE | addAH | addAL | addAIndHl | addAA | adcAB | adcAC | adcAD | adcAE | adcAH
  | adcAL | adcAIndHl | adcAA | subB | subC | subD | subE | subH | subL | subIndHl | subA | sbcAB | sbcAC | sbcAD
  | sbcAE | sbcAH | sbcAL | sbcAIndHl | sbcAA | andB | andC | andD | andE | andH | andL | andIndHl | andA | xorB
  | xorC | xorD | xorE | xorH | xorL | xorIndHl | xorA | orB | orC | orD | orE | orH | orL | orIndHl | orA | cpB
  | cpC | cpD | cpE | cpH | cpL | cpIndHl | cpA | retNz | popBc | pushBc | rst00 | retZ | ret
  /-- The byte 0xCB on its own (47_system.md R345): well formed only with the extended opcode that follows it. -/
  | prefixCb
  | rst08 | retNc | popDe | pushDe | rst10 | retC | reti | rst18 | popHl | ldIndCA | pushHl | rst20 | jpIndHl
  | rst28 | popAf | ldAIndC | di | pushAf | rst30 | ldSpHl | ei | rst38 | rlcB | rlcC | rlcD | rlcE | rlcH | rlcL
  | rlcIndHl | rlcA | rrcB | rrcC | rrcD | rrcE | rrcH | rrcL | rrcIndHl | rrcA | rlB | rlC | rlD | rlE | rlH | rlL
  | rlIndHl | rlA | rrB | rrC | rrD | rrE | rrH | rrL | rrIndHl | rrA | slaB | slaC | slaD | slaE | slaH | slaL
  | slaIndHl | slaA | sraB | sraC | sraD | sraE | sraH | sraL | sraIndHl | sraA | swapB | swapC | swapD | swapE
  | swapH | swapL | swapIndHl | swapA | srlB | srlC | srlD | srlE | srlH | srlL | srlIndHl | srlA | bit0B | bit0C
  | bit0D | bit0E | bit0H | bit0L | bit0IndHl | bit0A | bit1B | bit1C | bit1D | bit1E | bit1H | bit1L | bit1IndHl
  | bit1A | bit2B | bit2C | bit2D | bit2E | bit2H | bit2L | bit2IndHl | bit2A | bit3B | bit3C | bit3D | bit3E
  | bit3H | bit3L | bit3IndHl | bit3A | bit4B | bit4C | bit4D | bit4E | bit4H | bit4L | bit4IndHl | bit4A | bit5B
  | bit5C | bit5D | bit5E | bit5H | bit5L | bit5IndHl | bit5A | bit6B | bit6C | bit6D | bit6E | bit6H | bit6L
  | bit6IndHl | bit6A | bit7B | bit7C | bit7D | bit7E | bit7H | bit7L | bit7IndHl | bit7A | res0B | res0C | res0D
  | res0E | res0H | res0L | res0IndHl | res0A | res1B | res1C | res1D | res1E | res1H | res1L | res1IndHl | res1A
  | res2B | res2C | res2D | res2E | res2H | res2L | res2IndHl | res2A | res3B | res3C | res3D | res3E | res3H
  | res3L | res3IndHl | res3A | res4B | res4C | res4D | res4E | res4H | res4L | res4IndHl | res4A | res5B | res5C
  | res5D | res5E | res5H | res5L | res5IndHl | res5A | res6B | res6C | res6D | res6E | res6H | res6L | res6IndHl
  | res6A | res7B | res7C | res7D | res7E | res7H | res7L | res7IndHl | res7A | set0B | set0C | set0D | set0E
  | set0H | set0L | set0IndHl | set0A | set1B | set1C | set1D | set1E | set1H | set1L | set1IndHl | set1A | set2B
  | set2C | set2D | set2E | set2H | set2L | set2IndHl | set2A | set3B | set3C | set3D | set3E | set3H | set3L
  | set3IndHl | set3A | set4B | set4C | set4D | set4E | set4H | set4L | set4IndHl | set4A | set5B | set5C | set5D
  | set5E | set5H | set5L | set5IndHl | set5A | set6B | set6C | set6D | set6E | set6H | set6L | set6IndHl | set6A
  | set7B | set7C | set7D | set7E | set7H | set7L | set7IndHl | set7A
  deriving DecidableEq, Repr

/-- `LD r,r'` (40_load8.md R200). -/
def Instr.ldReg : Reg8 → Reg8 → Instr
  | .b, .b => .ldBB | .b, .c => .ldBC | .b, .d => .ldBD | .b, .e => .ldBE | .b, .h => .ldBH | .b, .l => .ldBL
  | .b, .a => .ldBA | .c, .b => .ldCB | .c, .c => .ldCC | .c, .d => .ldCD | .c, .e => .ldCE | .c, .h => .ldCH
  | .c, .l => .ldCL | .c, .a => .ldCA | .d, .b => .ldDB | .d, .c => .ldDC | .d, .d => .ldDD | .d, .e => .ldDE
  | .d, .h => .ldDH | .d, .l => .ldDL | .d, .a => .ldDA | .e, .b => .ldEB | .e, .c => .ldEC | .e, .d => .ldED
  | .e, .e => .ldEE | .e, .h => .ldEH | .e, .l => .ldEL | .e, .a => .ldEA | .h, .b => .ldHB | .h, .c => .ldHC
  | .h, .d => .ldHD | .h, .e => .ldHE | .h, .h => .ldHH | .h, .l => .ldHL | .h, .a => .ldHA | .l, .b => .ldLB
  | .l, .c => .ldLC | .l, .d => .ldLD | .l, .e => .ldLE | .l, .h => .ldLH | .l, .l => .ldLL | .l, .a => .ldLA
  | .a, .b => .ldAB | .a, .c => .ldAC | .a, .d => .ldAD | .a, .e => .ldAE | .a, .h => .ldAH | .a, .l => .ldAL
  | .a, .a => .ldAA

/-- `LD r,d8` (40_load8.md R201). -/
def Instr.ldImm (r : Reg8) (n : Byte) : Instr :=
  match r with
  | .b => .ldBD8 n | .c => .ldCD8 n | .d => .ldDD8 n | .e => .ldED8 n | .h => .ldHD8 n | .l => .ldLD8 n
  | .a => .ldAD8 n

/-- `LD r,(HL)` (40_load8.md R202). -/
def Instr.ldFromHl : Reg8 → Instr
  | .b => .ldBIndHl | .c => .ldCIndHl | .d => .ldDIndHl | .e => .ldEIndHl | .h => .ldHIndHl | .l => .ldLIndHl
  | .a => .ldAIndHl

/-- `LD (HL),r` (40_load8.md R203). -/
def Instr.ldToHl : Reg8 → Instr
  | .b => .ldIndHlB | .c => .ldIndHlC | .d => .ldIndHlD | .e => .ldIndHlE | .h => .ldIndHlH | .l => .ldIndHlL
  | .a => .ldIndHlA

/-- `LD rr,d16` (41_load16_stack.md R231). -/
def Instr.ldPairImm (p : Pair) (nn : Word) : Instr :=
  match p with
  | .bc => .ldBcD16 nn | .de => .ldDeD16 nn | .hl => .ldHlD16 nn | .sp => .ldSpD16 nn

/-- `ADD HL,rr` (43_alu16.md R280). -/
def Instr.addHlPair : Pair → Instr
  | .bc => .addHlBc | .de => .addHlDe | .hl => .addHlHl | .sp => .addHlSp

/-- `INC rr` (43_alu16.md R282). -/
def Instr.incPair : Pair → Instr
  | .bc => .incBc | .de => .incDe | .hl => .incHl | .sp => .incSp

/-- `DEC rr` (43_alu16.md R283). -/
def Instr.decPair : Pair → Instr
  | .bc => .decBc | .de => .decDe | .hl => .decHl | .sp => .decSp

/-- `PUSH rr` and `PUSH AF` (41_load16_stack.md R235, R236). -/
def Instr.push : StackPair → Instr
  | .bc => .pushBc | .de => .pushDe | .hl => .pushHl | .af => .pushAf

/-- `POP rr` and `POP AF` (41_load16_stack.md R237, R238). -/
def Instr.pop : StackPair → Instr
  | .bc => .popBc | .de => .popDe | .hl => .popHl | .af => .popAf

/-- `INC r` and `INC (HL)` (42_alu8.md R260, R261). -/
def Instr.inc8 : Operand → Instr
  | .reg .b => .incB | .reg .c => .incC | .reg .d => .incD | .reg .e => .incE | .reg .h => .incH
  | .reg .l => .incL | .reg .a => .incA | .indHl => .incIndHl

/-- `DEC r` and `DEC (HL)` (42_alu8.md R262, R263). -/
def Instr.dec8 : Operand → Instr
  | .reg .b => .decB | .reg .c => .decC | .reg .d => .decD | .reg .e => .decE | .reg .h => .decH
  | .reg .l => .decL | .reg .a => .decA | .indHl => .decIndHl

/-- The two-operand 8-bit operations (42_alu8.md R252 to R259). -/
def Instr.alu : AluOp → Source → Instr
  | .add, .reg .b => .addAB | .add, .reg .c => .addAC | .add, .reg .d => .addAD | .add, .reg .e => .addAE
  | .add, .reg .h => .addAH | .add, .reg .l => .addAL | .add, .reg .a => .addAA | .add, .indHl => .addAIndHl
  | .add, .imm n => .addAD8 n | .adc, .reg .b => .adcAB | .adc, .reg .c => .adcAC | .adc, .reg .d => .adcAD
  | .adc, .reg .e => .adcAE | .adc, .reg .h => .adcAH | .adc, .reg .l => .adcAL | .adc, .reg .a => .adcAA
  | .adc, .indHl => .adcAIndHl | .adc, .imm n => .adcAD8 n | .sub, .reg .b => .subB | .sub, .reg .c => .subC
  | .sub, .reg .d => .subD | .sub, .reg .e => .subE | .sub, .reg .h => .subH | .sub, .reg .l => .subL
  | .sub, .reg .a => .subA | .sub, .indHl => .subIndHl | .sub, .imm n => .subD8 n | .sbc, .reg .b => .sbcAB
  | .sbc, .reg .c => .sbcAC | .sbc, .reg .d => .sbcAD | .sbc, .reg .e => .sbcAE | .sbc, .reg .h => .sbcAH
  | .sbc, .reg .l => .sbcAL | .sbc, .reg .a => .sbcAA | .sbc, .indHl => .sbcAIndHl | .sbc, .imm n => .sbcAD8 n
  | .and, .reg .b => .andB | .and, .reg .c => .andC | .and, .reg .d => .andD | .and, .reg .e => .andE
  | .and, .reg .h => .andH | .and, .reg .l => .andL | .and, .reg .a => .andA | .and, .indHl => .andIndHl
  | .and, .imm n => .andD8 n | .xor, .reg .b => .xorB | .xor, .reg .c => .xorC | .xor, .reg .d => .xorD
  | .xor, .reg .e => .xorE | .xor, .reg .h => .xorH | .xor, .reg .l => .xorL | .xor, .reg .a => .xorA
  | .xor, .indHl => .xorIndHl | .xor, .imm n => .xorD8 n | .or, .reg .b => .orB | .or, .reg .c => .orC
  | .or, .reg .d => .orD | .or, .reg .e => .orE | .or, .reg .h => .orH | .or, .reg .l => .orL
  | .or, .reg .a => .orA | .or, .indHl => .orIndHl | .or, .imm n => .orD8 n | .cp, .reg .b => .cpB
  | .cp, .reg .c => .cpC | .cp, .reg .d => .cpD | .cp, .reg .e => .cpE | .cp, .reg .h => .cpH
  | .cp, .reg .l => .cpL | .cp, .reg .a => .cpA | .cp, .indHl => .cpIndHl | .cp, .imm n => .cpD8 n

/-- The rotates and shifts of the extended table (44_rotate_shift.md R295 to R302). -/
def Instr.rot : RotOp → Operand → Instr
  | .rlc, .reg .b => .rlcB | .rlc, .reg .c => .rlcC | .rlc, .reg .d => .rlcD | .rlc, .reg .e => .rlcE
  | .rlc, .reg .h => .rlcH | .rlc, .reg .l => .rlcL | .rlc, .reg .a => .rlcA | .rlc, .indHl => .rlcIndHl
  | .rrc, .reg .b => .rrcB | .rrc, .reg .c => .rrcC | .rrc, .reg .d => .rrcD | .rrc, .reg .e => .rrcE
  | .rrc, .reg .h => .rrcH | .rrc, .reg .l => .rrcL | .rrc, .reg .a => .rrcA | .rrc, .indHl => .rrcIndHl
  | .rl, .reg .b => .rlB | .rl, .reg .c => .rlC | .rl, .reg .d => .rlD | .rl, .reg .e => .rlE
  | .rl, .reg .h => .rlH | .rl, .reg .l => .rlL | .rl, .reg .a => .rlA | .rl, .indHl => .rlIndHl
  | .rr, .reg .b => .rrB | .rr, .reg .c => .rrC | .rr, .reg .d => .rrD | .rr, .reg .e => .rrE
  | .rr, .reg .h => .rrH | .rr, .reg .l => .rrL | .rr, .reg .a => .rrA | .rr, .indHl => .rrIndHl
  | .sla, .reg .b => .slaB | .sla, .reg .c => .slaC | .sla, .reg .d => .slaD | .sla, .reg .e => .slaE
  | .sla, .reg .h => .slaH | .sla, .reg .l => .slaL | .sla, .reg .a => .slaA | .sla, .indHl => .slaIndHl
  | .sra, .reg .b => .sraB | .sra, .reg .c => .sraC | .sra, .reg .d => .sraD | .sra, .reg .e => .sraE
  | .sra, .reg .h => .sraH | .sra, .reg .l => .sraL | .sra, .reg .a => .sraA | .sra, .indHl => .sraIndHl
  | .swap, .reg .b => .swapB | .swap, .reg .c => .swapC | .swap, .reg .d => .swapD | .swap, .reg .e => .swapE
  | .swap, .reg .h => .swapH | .swap, .reg .l => .swapL | .swap, .reg .a => .swapA | .swap, .indHl => .swapIndHl
  | .srl, .reg .b => .srlB | .srl, .reg .c => .srlC | .srl, .reg .d => .srlD | .srl, .reg .e => .srlE
  | .srl, .reg .h => .srlH | .srl, .reg .l => .srlL | .srl, .reg .a => .srlA | .srl, .indHl => .srlIndHl

/-- `BIT b,m` (45_bit.md R310, R311). -/
def Instr.bit (b : Fin 8) (m : Operand) : Instr :=
  match m, b with
  | .reg .b, 0 => .bit0B | .reg .b, 1 => .bit1B | .reg .b, 2 => .bit2B | .reg .b, 3 => .bit3B
  | .reg .b, 4 => .bit4B | .reg .b, 5 => .bit5B | .reg .b, 6 => .bit6B | .reg .b, 7 => .bit7B
  | .reg .c, 0 => .bit0C | .reg .c, 1 => .bit1C | .reg .c, 2 => .bit2C | .reg .c, 3 => .bit3C
  | .reg .c, 4 => .bit4C | .reg .c, 5 => .bit5C | .reg .c, 6 => .bit6C | .reg .c, 7 => .bit7C
  | .reg .d, 0 => .bit0D | .reg .d, 1 => .bit1D | .reg .d, 2 => .bit2D | .reg .d, 3 => .bit3D
  | .reg .d, 4 => .bit4D | .reg .d, 5 => .bit5D | .reg .d, 6 => .bit6D | .reg .d, 7 => .bit7D
  | .reg .e, 0 => .bit0E | .reg .e, 1 => .bit1E | .reg .e, 2 => .bit2E | .reg .e, 3 => .bit3E
  | .reg .e, 4 => .bit4E | .reg .e, 5 => .bit5E | .reg .e, 6 => .bit6E | .reg .e, 7 => .bit7E
  | .reg .h, 0 => .bit0H | .reg .h, 1 => .bit1H | .reg .h, 2 => .bit2H | .reg .h, 3 => .bit3H
  | .reg .h, 4 => .bit4H | .reg .h, 5 => .bit5H | .reg .h, 6 => .bit6H | .reg .h, 7 => .bit7H
  | .reg .l, 0 => .bit0L | .reg .l, 1 => .bit1L | .reg .l, 2 => .bit2L | .reg .l, 3 => .bit3L
  | .reg .l, 4 => .bit4L | .reg .l, 5 => .bit5L | .reg .l, 6 => .bit6L | .reg .l, 7 => .bit7L
  | .reg .a, 0 => .bit0A | .reg .a, 1 => .bit1A | .reg .a, 2 => .bit2A | .reg .a, 3 => .bit3A
  | .reg .a, 4 => .bit4A | .reg .a, 5 => .bit5A | .reg .a, 6 => .bit6A | .reg .a, 7 => .bit7A
  | .indHl, 0 => .bit0IndHl | .indHl, 1 => .bit1IndHl | .indHl, 2 => .bit2IndHl | .indHl, 3 => .bit3IndHl
  | .indHl, 4 => .bit4IndHl | .indHl, 5 => .bit5IndHl | .indHl, 6 => .bit6IndHl | .indHl, 7 => .bit7IndHl

/-- `RES b,m` (45_bit.md R312). -/
def Instr.res (b : Fin 8) (m : Operand) : Instr :=
  match m, b with
  | .reg .b, 0 => .res0B | .reg .b, 1 => .res1B | .reg .b, 2 => .res2B | .reg .b, 3 => .res3B
  | .reg .b, 4 => .res4B | .reg .b, 5 => .res5B | .reg .b, 6 => .res6B | .reg .b, 7 => .res7B
  | .reg .c, 0 => .res0C | .reg .c, 1 => .res1C | .reg .c, 2 => .res2C | .reg .c, 3 => .res3C
  | .reg .c, 4 => .res4C | .reg .c, 5 => .res5C | .reg .c, 6 => .res6C | .reg .c, 7 => .res7C
  | .reg .d, 0 => .res0D | .reg .d, 1 => .res1D | .reg .d, 2 => .res2D | .reg .d, 3 => .res3D
  | .reg .d, 4 => .res4D | .reg .d, 5 => .res5D | .reg .d, 6 => .res6D | .reg .d, 7 => .res7D
  | .reg .e, 0 => .res0E | .reg .e, 1 => .res1E | .reg .e, 2 => .res2E | .reg .e, 3 => .res3E
  | .reg .e, 4 => .res4E | .reg .e, 5 => .res5E | .reg .e, 6 => .res6E | .reg .e, 7 => .res7E
  | .reg .h, 0 => .res0H | .reg .h, 1 => .res1H | .reg .h, 2 => .res2H | .reg .h, 3 => .res3H
  | .reg .h, 4 => .res4H | .reg .h, 5 => .res5H | .reg .h, 6 => .res6H | .reg .h, 7 => .res7H
  | .reg .l, 0 => .res0L | .reg .l, 1 => .res1L | .reg .l, 2 => .res2L | .reg .l, 3 => .res3L
  | .reg .l, 4 => .res4L | .reg .l, 5 => .res5L | .reg .l, 6 => .res6L | .reg .l, 7 => .res7L
  | .reg .a, 0 => .res0A | .reg .a, 1 => .res1A | .reg .a, 2 => .res2A | .reg .a, 3 => .res3A
  | .reg .a, 4 => .res4A | .reg .a, 5 => .res5A | .reg .a, 6 => .res6A | .reg .a, 7 => .res7A
  | .indHl, 0 => .res0IndHl | .indHl, 1 => .res1IndHl | .indHl, 2 => .res2IndHl | .indHl, 3 => .res3IndHl
  | .indHl, 4 => .res4IndHl | .indHl, 5 => .res5IndHl | .indHl, 6 => .res6IndHl | .indHl, 7 => .res7IndHl

/-- `SET b,m` (45_bit.md R313). -/
def Instr.set (b : Fin 8) (m : Operand) : Instr :=
  match m, b with
  | .reg .b, 0 => .set0B | .reg .b, 1 => .set1B | .reg .b, 2 => .set2B | .reg .b, 3 => .set3B
  | .reg .b, 4 => .set4B | .reg .b, 5 => .set5B | .reg .b, 6 => .set6B | .reg .b, 7 => .set7B
  | .reg .c, 0 => .set0C | .reg .c, 1 => .set1C | .reg .c, 2 => .set2C | .reg .c, 3 => .set3C
  | .reg .c, 4 => .set4C | .reg .c, 5 => .set5C | .reg .c, 6 => .set6C | .reg .c, 7 => .set7C
  | .reg .d, 0 => .set0D | .reg .d, 1 => .set1D | .reg .d, 2 => .set2D | .reg .d, 3 => .set3D
  | .reg .d, 4 => .set4D | .reg .d, 5 => .set5D | .reg .d, 6 => .set6D | .reg .d, 7 => .set7D
  | .reg .e, 0 => .set0E | .reg .e, 1 => .set1E | .reg .e, 2 => .set2E | .reg .e, 3 => .set3E
  | .reg .e, 4 => .set4E | .reg .e, 5 => .set5E | .reg .e, 6 => .set6E | .reg .e, 7 => .set7E
  | .reg .h, 0 => .set0H | .reg .h, 1 => .set1H | .reg .h, 2 => .set2H | .reg .h, 3 => .set3H
  | .reg .h, 4 => .set4H | .reg .h, 5 => .set5H | .reg .h, 6 => .set6H | .reg .h, 7 => .set7H
  | .reg .l, 0 => .set0L | .reg .l, 1 => .set1L | .reg .l, 2 => .set2L | .reg .l, 3 => .set3L
  | .reg .l, 4 => .set4L | .reg .l, 5 => .set5L | .reg .l, 6 => .set6L | .reg .l, 7 => .set7L
  | .reg .a, 0 => .set0A | .reg .a, 1 => .set1A | .reg .a, 2 => .set2A | .reg .a, 3 => .set3A
  | .reg .a, 4 => .set4A | .reg .a, 5 => .set5A | .reg .a, 6 => .set6A | .reg .a, 7 => .set7A
  | .indHl, 0 => .set0IndHl | .indHl, 1 => .set1IndHl | .indHl, 2 => .set2IndHl | .indHl, 3 => .set3IndHl
  | .indHl, 4 => .set4IndHl | .indHl, 5 => .set5IndHl | .indHl, 6 => .set6IndHl | .indHl, 7 => .set7IndHl

/-- `JP cc,a16` (46_control.md R322). -/
def Instr.jpCond (cc : Cond) (nn : Word) : Instr :=
  match cc with
  | .nz => .jpNzA16 nn | .z => .jpZA16 nn | .nc => .jpNcA16 nn | .c => .jpCA16 nn

/-- `JR cc,r8` (46_control.md R325). -/
def Instr.jrCond (cc : Cond) (e : Byte) : Instr :=
  match cc with
  | .nz => .jrNzR8 e | .z => .jrZR8 e | .nc => .jrNcR8 e | .c => .jrCR8 e

/-- `CALL cc,a16` (46_control.md R327). -/
def Instr.callCond (cc : Cond) (nn : Word) : Instr :=
  match cc with
  | .nz => .callNzA16 nn | .z => .callZA16 nn | .nc => .callNcA16 nn | .c => .callCA16 nn

/-- `RET cc` (46_control.md R329). -/
def Instr.retCond : Cond → Instr
  | .nz => .retNz | .z => .retZ | .nc => .retNc | .c => .retC

/-- `RST t` with t = y * 8 (46_control.md R331). -/
def Instr.rst : Fin 8 → Instr
  | 0 => .rst00 | 1 => .rst08 | 2 => .rst10 | 3 => .rst18 | 4 => .rst20 | 5 => .rst28 | 6 => .rst30 | 7 => .rst38

end Sys2Proof
end

