-- ==== Sys2Proof/WellFormed.lean ====
section
/-! DEFINITION. Which terms of `Instr` are instructions of the machine. -/

namespace Sys2Proof

/-- The eleven invalid primary slots (30_encoding.md R133). -/
def invalidSlots : List Byte :=
  [0xD3, 0xDB, 0xDD, 0xE3, 0xE4, 0xEB, 0xEC, 0xED, 0xF4, 0xFC, 0xFD]

/-- Every operand is in range by its type. Two things are left to check: `invalid` names one of the eleven slots of
30_encoding.md R133, and `prefixCb`, "the prefix of the extended table, not an instruction" (47_system.md R345), stands
for no instruction on its own. -/
def Instr.wf (i : Instr) : Bool :=
  match i with
  | .invalid op => invalidSlots.contains op
  | .prefixCb => false
  | _ => true

end Sys2Proof
end

