-- ==== Sys2Proof/Decode.lean ====
section
/-! DEFINITION. The two decode tables (30_encoding.md R121, R130, R131), the decoder, total on any bytes, the encoder
written from the same tables, and the small byte helpers both use. -/

namespace Sys2Proof

/-! ## Byte helpers -/

/-- `hi ++ lo` of 00_scope.md R8. -/
def wordOf (hi lo : Byte) : Word := hi ++ lo

/-- `v[15:8]`. -/
def hiByte (v : Word) : Byte := v.extractLsb' 8 8

/-- `v[7:0]`. -/
def loByte (v : Word) : Byte := v.extractLsb' 0 8

/-- `sext_16` of 00_scope.md R8. -/
def sext16 (e : Byte) : Word := e.signExtend 16

/-- The high page 0xFF00 + n (30_encoding.md R129). -/
def highPage (n : Byte) : Word := wordOf 0xFF n

/-! ## Operand codes -/

/-- `y = op[5:3]` (30_encoding.md R123). -/
def fieldY (op : Byte) : Fin 8 := (op.extractLsb' 3 3).toFin

/-- `z = op[2:0]` (30_encoding.md R123). -/
def fieldZ (op : Byte) : Fin 8 := (op.extractLsb' 0 3).toFin

/-- The 3-bit code of an 8-bit operand (30_encoding.md R124). -/
def Operand.code (m : Operand) : Byte :=
  match m with
  | .reg .b => 0
  | .reg .c => 1
  | .reg .d => 2
  | .reg .e => 3
  | .reg .h => 4
  | .reg .l => 5
  | .indHl => 6
  | .reg .a => 7

/-- The 8-bit operand a 3-bit code names (30_encoding.md R124). -/
def operandOfCode (k : Fin 8) : Operand :=
  match k with
  | 0 => .reg .b
  | 1 => .reg .c
  | 2 => .reg .d
  | 3 => .reg .e
  | 4 => .reg .h
  | 5 => .reg .l
  | 6 => .indHl
  | 7 => .reg .a

/-- The 2-bit code of table `rp` (30_encoding.md R125). -/
def Pair.code (p : Pair) : Byte :=
  match p with
  | .bc => 0
  | .de => 1
  | .hl => 2
  | .sp => 3

/-- The 2-bit code of table `rp2` (30_encoding.md R125). -/
def StackPair.code (p : StackPair) : Byte :=
  match p with
  | .bc => 0
  | .de => 1
  | .hl => 2
  | .af => 3

/-- The 2-bit code of a condition (30_encoding.md R126). -/
def Cond.code (cc : Cond) : Byte :=
  match cc with
  | .nz => 0
  | .z => 1
  | .nc => 2
  | .c => 3

/-- The 3-bit code of an ALU operation (30_encoding.md R127). -/
def AluOp.code (op : AluOp) : Byte :=
  match op with
  | .add => 0
  | .adc => 1
  | .sub => 2
  | .sbc => 3
  | .and => 4
  | .xor => 5
  | .or => 6
  | .cp => 7

/-- The 3-bit code of a rotate or shift (30_encoding.md R128). -/
def RotOp.code (op : RotOp) : Byte :=
  match op with
  | .rlc => 0
  | .rrc => 1
  | .rl => 2
  | .rr => 3
  | .sla => 4
  | .sra => 5
  | .swap => 6
  | .srl => 7

/-- The rotate or shift a 3-bit code names (30_encoding.md R128). -/
def rotOfCode (k : Fin 8) : RotOp :=
  match k with
  | 0 => .rlc
  | 1 => .rrc
  | 2 => .rl
  | 3 => .rr
  | 4 => .sla
  | 5 => .sra
  | 6 => .swap
  | 7 => .srl

/-! ## The decode tables -/

/-- A descriptor (30_encoding.md R121): length in bytes, base cycle cost, and the instruction its operand bytes give. -/
structure Slot where
  length : Nat
  cycles : Nat
  make : Byte → Byte → Instr

/-- Format P1, or an extended slot, whose length counts the extended opcode byte only (30_encoding.md R120, R121). -/
def slot1 (cycles : Nat) (i : Instr) : Slot := ⟨1, cycles, fun _ _ => i⟩

/-- Format P2 (30_encoding.md R120). -/
def slot2 (cycles : Nat) (f : Byte → Instr) : Slot := ⟨2, cycles, fun l _ => f l⟩

/-- Format P3, a little-endian word (30_encoding.md R120, R129). -/
def slot3 (cycles : Nat) (f : Word → Instr) : Slot := ⟨3, cycles, fun l h => f (wordOf h l)⟩

/-- An invalid slot: zero cycle cost (30_encoding.md R122, R133). -/
def slotInvalid (op : Byte) : Slot := ⟨1, 0, fun _ _ => .invalid op⟩

/-- Row 00 of the primary table (30_encoding.md R130). -/
def primaryRow0 : List Slot :=
  [slot1 4 .nop, slot3 12 .ldBcD16, slot1 8 .ldIndBcA, slot1 8 .incBc, slot1 4 .incB, slot1 4 .decB, slot2 8 .ldBD8,
   slot1 4 .rlca, slot3 20 .ldIndA16Sp, slot1 8 .addHlBc, slot1 8 .ldAIndBc, slot1 8 .decBc, slot1 4 .incC,
   slot1 4 .decC, slot2 8 .ldCD8, slot1 4 .rrca]

/-- Row 10 of the primary table (30_encoding.md R130). -/
def primaryRow1 : List Slot :=
  [slot2 4 (fun _ => .stop), slot3 12 .ldDeD16, slot1 8 .ldIndDeA, slot1 8 .incDe, slot1 4 .incD, slot1 4 .decD,
   slot2 8 .ldDD8, slot1 4 .rla, slot2 12 .jrR8, slot1 8 .addHlDe, slot1 8 .ldAIndDe, slot1 8 .decDe, slot1 4 .incE,
   slot1 4 .decE, slot2 8 .ldED8, slot1 4 .rra]

/-- Row 20 of the primary table (30_encoding.md R130). -/
def primaryRow2 : List Slot :=
  [slot2 8 .jrNzR8, slot3 12 .ldHlD16, slot1 8 .ldIndHlIncA, slot1 8 .incHl, slot1 4 .incH, slot1 4 .decH,
   slot2 8 .ldHD8, slot1 4 .daa, slot2 8 .jrZR8, slot1 8 .addHlHl, slot1 8 .ldAIndHlInc, slot1 8 .decHl,
   slot1 4 .incL, slot1 4 .decL, slot2 8 .ldLD8, slot1 4 .cpl]

/-- Row 30 of the primary table (30_encoding.md R130). -/
def primaryRow3 : List Slot :=
  [slot2 8 .jrNcR8, slot3 12 .ldSpD16, slot1 8 .ldIndHlDecA, slot1 8 .incSp, slot1 12 .incIndHl, slot1 12 .decIndHl,
   slot2 12 .ldIndHlD8, slot1 4 .scf, slot2 8 .jrCR8, slot1 8 .addHlSp, slot1 8 .ldAIndHlDec, slot1 8 .decSp,
   slot1 4 .incA, slot1 4 .decA, slot2 8 .ldAD8, slot1 4 .ccf]

/-- Row 40 of the primary table (30_encoding.md R130). -/
def primaryRow4 : List Slot :=
  [slot1 4 .ldBB, slot1 4 .ldBC, slot1 4 .ldBD, slot1 4 .ldBE, slot1 4 .ldBH, slot1 4 .ldBL, slot1 8 .ldBIndHl,
   slot1 4 .ldBA, slot1 4 .ldCB, slot1 4 .ldCC, slot1 4 .ldCD, slot1 4 .ldCE, slot1 4 .ldCH, slot1 4 .ldCL,
   slot1 8 .ldCIndHl, slot1 4 .ldCA]

/-- Row 50 of the primary table (30_encoding.md R130). -/
def primaryRow5 : List Slot :=
  [slot1 4 .ldDB, slot1 4 .ldDC, slot1 4 .ldDD, slot1 4 .ldDE, slot1 4 .ldDH, slot1 4 .ldDL, slot1 8 .ldDIndHl,
   slot1 4 .ldDA, slot1 4 .ldEB, slot1 4 .ldEC, slot1 4 .ldED, slot1 4 .ldEE, slot1 4 .ldEH, slot1 4 .ldEL,
   slot1 8 .ldEIndHl, slot1 4 .ldEA]

/-- Row 60 of the primary table (30_encoding.md R130). -/
def primaryRow6 : List Slot :=
  [slot1 4 .ldHB, slot1 4 .ldHC, slot1 4 .ldHD, slot1 4 .ldHE, slot1 4 .ldHH, slot1 4 .ldHL, slot1 8 .ldHIndHl,
   slot1 4 .ldHA, slot1 4 .ldLB, slot1 4 .ldLC, slot1 4 .ldLD, slot1 4 .ldLE, slot1 4 .ldLH, slot1 4 .ldLL,
   slot1 8 .ldLIndHl, slot1 4 .ldLA]

/-- Row 70 of the primary table (30_encoding.md R130). -/
def primaryRow7 : List Slot :=
  [slot1 8 .ldIndHlB, slot1 8 .ldIndHlC, slot1 8 .ldIndHlD, slot1 8 .ldIndHlE, slot1 8 .ldIndHlH, slot1 8 .ldIndHlL,
   slot1 4 .halt, slot1 8 .ldIndHlA, slot1 4 .ldAB, slot1 4 .ldAC, slot1 4 .ldAD, slot1 4 .ldAE, slot1 4 .ldAH,
   slot1 4 .ldAL, slot1 8 .ldAIndHl, slot1 4 .ldAA]

/-- Row 80 of the primary table (30_encoding.md R130). -/
def primaryRow8 : List Slot :=
  [slot1 4 .addAB, slot1 4 .addAC, slot1 4 .addAD, slot1 4 .addAE, slot1 4 .addAH, slot1 4 .addAL,
   slot1 8 .addAIndHl, slot1 4 .addAA, slot1 4 .adcAB, slot1 4 .adcAC, slot1 4 .adcAD, slot1 4 .adcAE,
   slot1 4 .adcAH, slot1 4 .adcAL, slot1 8 .adcAIndHl, slot1 4 .adcAA]

/-- Row 90 of the primary table (30_encoding.md R130). -/
def primaryRow9 : List Slot :=
  [slot1 4 .subB, slot1 4 .subC, slot1 4 .subD, slot1 4 .subE, slot1 4 .subH, slot1 4 .subL, slot1 8 .subIndHl,
   slot1 4 .subA, slot1 4 .sbcAB, slot1 4 .sbcAC, slot1 4 .sbcAD, slot1 4 .sbcAE, slot1 4 .sbcAH, slot1 4 .sbcAL,
   slot1 8 .sbcAIndHl, slot1 4 .sbcAA]

/-- Row A0 of the primary table (30_encoding.md R130). -/
def primaryRowA : List Slot :=
  [slot1 4 .andB, slot1 4 .andC, slot1 4 .andD, slot1 4 .andE, slot1 4 .andH, slot1 4 .andL, slot1 8 .andIndHl,
   slot1 4 .andA, slot1 4 .xorB, slot1 4 .xorC, slot1 4 .xorD, slot1 4 .xorE, slot1 4 .xorH, slot1 4 .xorL,
   slot1 8 .xorIndHl, slot1 4 .xorA]

/-- Row B0 of the primary table (30_encoding.md R130). -/
def primaryRowB : List Slot :=
  [slot1 4 .orB, slot1 4 .orC, slot1 4 .orD, slot1 4 .orE, slot1 4 .orH, slot1 4 .orL, slot1 8 .orIndHl,
   slot1 4 .orA, slot1 4 .cpB, slot1 4 .cpC, slot1 4 .cpD, slot1 4 .cpE, slot1 4 .cpH, slot1 4 .cpL,
   slot1 8 .cpIndHl, slot1 4 .cpA]

/-- Row C0 of the primary table (30_encoding.md R130). -/
def primaryRowC : List Slot :=
  [slot1 8 .retNz, slot1 12 .popBc, slot3 12 .jpNzA16, slot3 16 .jpA16, slot3 12 .callNzA16, slot1 16 .pushBc,
   slot2 8 .addAD8, slot1 16 .rst00, slot1 8 .retZ, slot1 16 .ret, slot3 12 .jpZA16, slot1 0 .prefixCb,
   slot3 12 .callZA16, slot3 24 .callA16, slot2 8 .adcAD8, slot1 16 .rst08]

/-- Row D0 of the primary table (30_encoding.md R130). -/
def primaryRowD : List Slot :=
  [slot1 8 .retNc, slot1 12 .popDe, slot3 12 .jpNcA16, slotInvalid 0xD3, slot3 12 .callNcA16, slot1 16 .pushDe,
   slot2 8 .subD8, slot1 16 .rst10, slot1 8 .retC, slot1 16 .reti, slot3 12 .jpCA16, slotInvalid 0xDB,
   slot3 12 .callCA16, slotInvalid 0xDD, slot2 8 .sbcAD8, slot1 16 .rst18]

/-- Row E0 of the primary table (30_encoding.md R130). -/
def primaryRowE : List Slot :=
  [slot2 12 .ldhIndA8A, slot1 12 .popHl, slot1 8 .ldIndCA, slotInvalid 0xE3, slotInvalid 0xE4, slot1 16 .pushHl,
   slot2 8 .andD8, slot1 16 .rst20, slot2 16 .addSpR8, slot1 4 .jpIndHl, slot3 16 .ldIndA16A, slotInvalid 0xEB,
   slotInvalid 0xEC, slotInvalid 0xED, slot2 8 .xorD8, slot1 16 .rst28]

/-- Row F0 of the primary table (30_encoding.md R130). -/
def primaryRowF : List Slot :=
  [slot2 12 .ldhAIndA8, slot1 12 .popAf, slot1 8 .ldAIndC, slot1 4 .di, slotInvalid 0xF4, slot1 16 .pushAf,
   slot2 8 .orD8, slot1 16 .rst30, slot2 12 .ldHlSpR8, slot1 8 .ldSpHl, slot3 16 .ldAIndA16, slot1 4 .ei,
   slotInvalid 0xFC, slotInvalid 0xFD, slot2 8 .cpD8, slot1 16 .rst38]

/-- Row 00 of the extended table (30_encoding.md R131). -/
def extendedRow0 : List Slot :=
  [slot1 8 .rlcB, slot1 8 .rlcC, slot1 8 .rlcD, slot1 8 .rlcE, slot1 8 .rlcH, slot1 8 .rlcL, slot1 16 .rlcIndHl,
   slot1 8 .rlcA, slot1 8 .rrcB, slot1 8 .rrcC, slot1 8 .rrcD, slot1 8 .rrcE, slot1 8 .rrcH, slot1 8 .rrcL,
   slot1 16 .rrcIndHl, slot1 8 .rrcA]

/-- Row 10 of the extended table (30_encoding.md R131). -/
def extendedRow1 : List Slot :=
  [slot1 8 .rlB, slot1 8 .rlC, slot1 8 .rlD, slot1 8 .rlE, slot1 8 .rlH, slot1 8 .rlL, slot1 16 .rlIndHl,
   slot1 8 .rlA, slot1 8 .rrB, slot1 8 .rrC, slot1 8 .rrD, slot1 8 .rrE, slot1 8 .rrH, slot1 8 .rrL,
   slot1 16 .rrIndHl, slot1 8 .rrA]

/-- Row 20 of the extended table (30_encoding.md R131). -/
def extendedRow2 : List Slot :=
  [slot1 8 .slaB, slot1 8 .slaC, slot1 8 .slaD, slot1 8 .slaE, slot1 8 .slaH, slot1 8 .slaL, slot1 16 .slaIndHl,
   slot1 8 .slaA, slot1 8 .sraB, slot1 8 .sraC, slot1 8 .sraD, slot1 8 .sraE, slot1 8 .sraH, slot1 8 .sraL,
   slot1 16 .sraIndHl, slot1 8 .sraA]

/-- Row 30 of the extended table (30_encoding.md R131). -/
def extendedRow3 : List Slot :=
  [slot1 8 .swapB, slot1 8 .swapC, slot1 8 .swapD, slot1 8 .swapE, slot1 8 .swapH, slot1 8 .swapL,
   slot1 16 .swapIndHl, slot1 8 .swapA, slot1 8 .srlB, slot1 8 .srlC, slot1 8 .srlD, slot1 8 .srlE, slot1 8 .srlH,
   slot1 8 .srlL, slot1 16 .srlIndHl, slot1 8 .srlA]

/-- Row 40 of the extended table (30_encoding.md R131). -/
def extendedRow4 : List Slot :=
  [slot1 8 .bit0B, slot1 8 .bit0C, slot1 8 .bit0D, slot1 8 .bit0E, slot1 8 .bit0H, slot1 8 .bit0L,
   slot1 12 .bit0IndHl, slot1 8 .bit0A, slot1 8 .bit1B, slot1 8 .bit1C, slot1 8 .bit1D, slot1 8 .bit1E,
   slot1 8 .bit1H, slot1 8 .bit1L, slot1 12 .bit1IndHl, slot1 8 .bit1A]

/-- Row 50 of the extended table (30_encoding.md R131). -/
def extendedRow5 : List Slot :=
  [slot1 8 .bit2B, slot1 8 .bit2C, slot1 8 .bit2D, slot1 8 .bit2E, slot1 8 .bit2H, slot1 8 .bit2L,
   slot1 12 .bit2IndHl, slot1 8 .bit2A, slot1 8 .bit3B, slot1 8 .bit3C, slot1 8 .bit3D, slot1 8 .bit3E,
   slot1 8 .bit3H, slot1 8 .bit3L, slot1 12 .bit3IndHl, slot1 8 .bit3A]

/-- Row 60 of the extended table (30_encoding.md R131). -/
def extendedRow6 : List Slot :=
  [slot1 8 .bit4B, slot1 8 .bit4C, slot1 8 .bit4D, slot1 8 .bit4E, slot1 8 .bit4H, slot1 8 .bit4L,
   slot1 12 .bit4IndHl, slot1 8 .bit4A, slot1 8 .bit5B, slot1 8 .bit5C, slot1 8 .bit5D, slot1 8 .bit5E,
   slot1 8 .bit5H, slot1 8 .bit5L, slot1 12 .bit5IndHl, slot1 8 .bit5A]

/-- Row 70 of the extended table (30_encoding.md R131). -/
def extendedRow7 : List Slot :=
  [slot1 8 .bit6B, slot1 8 .bit6C, slot1 8 .bit6D, slot1 8 .bit6E, slot1 8 .bit6H, slot1 8 .bit6L,
   slot1 12 .bit6IndHl, slot1 8 .bit6A, slot1 8 .bit7B, slot1 8 .bit7C, slot1 8 .bit7D, slot1 8 .bit7E,
   slot1 8 .bit7H, slot1 8 .bit7L, slot1 12 .bit7IndHl, slot1 8 .bit7A]

/-- Row 80 of the extended table (30_encoding.md R131). -/
def extendedRow8 : List Slot :=
  [slot1 8 .res0B, slot1 8 .res0C, slot1 8 .res0D, slot1 8 .res0E, slot1 8 .res0H, slot1 8 .res0L,
   slot1 16 .res0IndHl, slot1 8 .res0A, slot1 8 .res1B, slot1 8 .res1C, slot1 8 .res1D, slot1 8 .res1E,
   slot1 8 .res1H, slot1 8 .res1L, slot1 16 .res1IndHl, slot1 8 .res1A]

/-- Row 90 of the extended table (30_encoding.md R131). -/
def extendedRow9 : List Slot :=
  [slot1 8 .res2B, slot1 8 .res2C, slot1 8 .res2D, slot1 8 .res2E, slot1 8 .res2H, slot1 8 .res2L,
   slot1 16 .res2IndHl, slot1 8 .res2A, slot1 8 .res3B, slot1 8 .res3C, slot1 8 .res3D, slot1 8 .res3E,
   slot1 8 .res3H, slot1 8 .res3L, slot1 16 .res3IndHl, slot1 8 .res3A]

/-- Row A0 of the extended table (30_encoding.md R131). -/
def extendedRowA : List Slot :=
  [slot1 8 .res4B, slot1 8 .res4C, slot1 8 .res4D, slot1 8 .res4E, slot1 8 .res4H, slot1 8 .res4L,
   slot1 16 .res4IndHl, slot1 8 .res4A, slot1 8 .res5B, slot1 8 .res5C, slot1 8 .res5D, slot1 8 .res5E,
   slot1 8 .res5H, slot1 8 .res5L, slot1 16 .res5IndHl, slot1 8 .res5A]

/-- Row B0 of the extended table (30_encoding.md R131). -/
def extendedRowB : List Slot :=
  [slot1 8 .res6B, slot1 8 .res6C, slot1 8 .res6D, slot1 8 .res6E, slot1 8 .res6H, slot1 8 .res6L,
   slot1 16 .res6IndHl, slot1 8 .res6A, slot1 8 .res7B, slot1 8 .res7C, slot1 8 .res7D, slot1 8 .res7E,
   slot1 8 .res7H, slot1 8 .res7L, slot1 16 .res7IndHl, slot1 8 .res7A]

/-- Row C0 of the extended table (30_encoding.md R131). -/
def extendedRowC : List Slot :=
  [slot1 8 .set0B, slot1 8 .set0C, slot1 8 .set0D, slot1 8 .set0E, slot1 8 .set0H, slot1 8 .set0L,
   slot1 16 .set0IndHl, slot1 8 .set0A, slot1 8 .set1B, slot1 8 .set1C, slot1 8 .set1D, slot1 8 .set1E,
   slot1 8 .set1H, slot1 8 .set1L, slot1 16 .set1IndHl, slot1 8 .set1A]

/-- Row D0 of the extended table (30_encoding.md R131). -/
def extendedRowD : List Slot :=
  [slot1 8 .set2B, slot1 8 .set2C, slot1 8 .set2D, slot1 8 .set2E, slot1 8 .set2H, slot1 8 .set2L,
   slot1 16 .set2IndHl, slot1 8 .set2A, slot1 8 .set3B, slot1 8 .set3C, slot1 8 .set3D, slot1 8 .set3E,
   slot1 8 .set3H, slot1 8 .set3L, slot1 16 .set3IndHl, slot1 8 .set3A]

/-- Row E0 of the extended table (30_encoding.md R131). -/
def extendedRowE : List Slot :=
  [slot1 8 .set4B, slot1 8 .set4C, slot1 8 .set4D, slot1 8 .set4E, slot1 8 .set4H, slot1 8 .set4L,
   slot1 16 .set4IndHl, slot1 8 .set4A, slot1 8 .set5B, slot1 8 .set5C, slot1 8 .set5D, slot1 8 .set5E,
   slot1 8 .set5H, slot1 8 .set5L, slot1 16 .set5IndHl, slot1 8 .set5A]

/-- Row F0 of the extended table (30_encoding.md R131). -/
def extendedRowF : List Slot :=
  [slot1 8 .set6B, slot1 8 .set6C, slot1 8 .set6D, slot1 8 .set6E, slot1 8 .set6H, slot1 8 .set6L,
   slot1 16 .set6IndHl, slot1 8 .set6A, slot1 8 .set7B, slot1 8 .set7C, slot1 8 .set7D, slot1 8 .set7E,
   slot1 8 .set7H, slot1 8 .set7L, slot1 16 .set7IndHl, slot1 8 .set7A]

/-- The primary decode table, 256 slots (30_encoding.md R130). -/
def primaryTable : List Slot :=
  primaryRow0 ++ primaryRow1 ++ primaryRow2 ++ primaryRow3 ++ primaryRow4 ++ primaryRow5 ++ primaryRow6 ++ primaryRow7 ++
  primaryRow8 ++ primaryRow9 ++ primaryRowA ++ primaryRowB ++ primaryRowC ++ primaryRowD ++ primaryRowE ++ primaryRowF

/-- The extended decode table, 256 slots (30_encoding.md R131). -/
def extendedTable : List Slot :=
  extendedRow0 ++ extendedRow1 ++ extendedRow2 ++ extendedRow3 ++ extendedRow4 ++ extendedRow5 ++ extendedRow6 ++ extendedRow7 ++
  extendedRow8 ++ extendedRow9 ++ extendedRowA ++ extendedRowB ++ extendedRowC ++ extendedRowD ++ extendedRowE ++ extendedRowF

/-- The descriptor of a primary opcode. -/
def primarySlot (op : Byte) : Slot := primaryTable[op.toNat]?.getD (slotInvalid op)

/-- The descriptor of an extended opcode. -/
def extendedSlot (op : Byte) : Slot := extendedTable[op.toNat]?.getD (slotInvalid op)

/-! ## The decoder -/

/-- The instruction that starts with `b0`, total on any bytes: 0xCB takes its slot from the extended table by the next
byte, any other opcode from the primary table (30_encoding.md R134 steps 1 to 5). Bytes past the instruction are not
looked at. -/
def decode3 (b0 b1 b2 : Byte) : Instr :=
  if b0 = 0xCB then (extendedSlot b1).make 0 0 else (primarySlot b0).make b1 b2

/-- "A decoder tells the length from the first byte alone, except that 0xCB always means two bytes" (30_encoding.md R136). -/
def instrLength (b0 : Byte) : Nat :=
  if b0 = 0xCB then 1 + 1 else (primarySlot b0).length

/-- Why a list of bytes holds no whole instruction. Safe: a fetch always has its bytes, so no step meets either. -/
inductive DecodeError where
  /-- No byte at all. -/
  | noBytes
  /-- The instruction goes on past the last byte. -/
  | truncated
  deriving DecidableEq, Repr

/-- The instruction at the head of a list of bytes and the bytes after it. -/
def decode (bytes : List Byte) : Except DecodeError (Instr × List Byte) :=
  match bytes with
  | [] => .error .noBytes
  | b0 :: _ =>
    if bytes.length < instrLength b0 then .error .truncated
    else .ok (decode3 b0 (bytes.getD 1 0) (bytes.getD 2 0), bytes.drop (instrLength b0))

/-! ## The encoder -/

/-- The bytes of an instruction (30_encoding.md R120, R130, R131). STOP's second byte, which is not examined
(30_encoding.md R139), is written 0x00. -/
def encode (i : Instr) : List Byte :=
  match i with
  | .nop => [0x00] | .ldBcD16 nn => [0x01, loByte nn, hiByte nn] | .ldIndBcA => [0x02] | .incBc => [0x03]
  | .incB => [0x04] | .decB => [0x05] | .ldBD8 n => [0x06, n] | .rlca => [0x07]
  | .ldIndA16Sp nn => [0x08, loByte nn, hiByte nn] | .addHlBc => [0x09] | .ldAIndBc => [0x0A] | .decBc => [0x0B]
  | .incC => [0x0C] | .decC => [0x0D] | .ldCD8 n => [0x0E, n] | .rrca => [0x0F] | .stop => [0x10, 0x00]
  | .ldDeD16 nn => [0x11, loByte nn, hiByte nn] | .ldIndDeA => [0x12] | .incDe => [0x13] | .incD => [0x14]
  | .decD => [0x15] | .ldDD8 n => [0x16, n] | .rla => [0x17] | .jrR8 e => [0x18, e] | .addHlDe => [0x19]
  | .ldAIndDe => [0x1A] | .decDe => [0x1B] | .incE => [0x1C] | .decE => [0x1D] | .ldED8 n => [0x1E, n]
  | .rra => [0x1F] | .jrNzR8 e => [0x20, e] | .ldHlD16 nn => [0x21, loByte nn, hiByte nn] | .ldIndHlIncA => [0x22]
  | .incHl => [0x23] | .incH => [0x24] | .decH => [0x25] | .ldHD8 n => [0x26, n] | .daa => [0x27]
  | .jrZR8 e => [0x28, e] | .addHlHl => [0x29] | .ldAIndHlInc => [0x2A] | .decHl => [0x2B] | .incL => [0x2C]
  | .decL => [0x2D] | .ldLD8 n => [0x2E, n] | .cpl => [0x2F] | .jrNcR8 e => [0x30, e]
  | .ldSpD16 nn => [0x31, loByte nn, hiByte nn] | .ldIndHlDecA => [0x32] | .incSp => [0x33] | .incIndHl => [0x34]
  | .decIndHl => [0x35] | .ldIndHlD8 n => [0x36, n] | .scf => [0x37] | .jrCR8 e => [0x38, e] | .addHlSp => [0x39]
  | .ldAIndHlDec => [0x3A] | .decSp => [0x3B] | .incA => [0x3C] | .decA => [0x3D] | .ldAD8 n => [0x3E, n]
  | .ccf => [0x3F] | .ldBB => [0x40] | .ldBC => [0x41] | .ldBD => [0x42] | .ldBE => [0x43] | .ldBH => [0x44]
  | .ldBL => [0x45] | .ldBIndHl => [0x46] | .ldBA => [0x47] | .ldCB => [0x48] | .ldCC => [0x49] | .ldCD => [0x4A]
  | .ldCE => [0x4B] | .ldCH => [0x4C] | .ldCL => [0x4D] | .ldCIndHl => [0x4E] | .ldCA => [0x4F] | .ldDB => [0x50]
  | .ldDC => [0x51] | .ldDD => [0x52] | .ldDE => [0x53] | .ldDH => [0x54] | .ldDL => [0x55] | .ldDIndHl => [0x56]
  | .ldDA => [0x57] | .ldEB => [0x58] | .ldEC => [0x59] | .ldED => [0x5A] | .ldEE => [0x5B] | .ldEH => [0x5C]
  | .ldEL => [0x5D] | .ldEIndHl => [0x5E] | .ldEA => [0x5F] | .ldHB => [0x60] | .ldHC => [0x61] | .ldHD => [0x62]
  | .ldHE => [0x63] | .ldHH => [0x64] | .ldHL => [0x65] | .ldHIndHl => [0x66] | .ldHA => [0x67] | .ldLB => [0x68]
  | .ldLC => [0x69] | .ldLD => [0x6A] | .ldLE => [0x6B] | .ldLH => [0x6C] | .ldLL => [0x6D] | .ldLIndHl => [0x6E]
  | .ldLA => [0x6F] | .ldIndHlB => [0x70] | .ldIndHlC => [0x71] | .ldIndHlD => [0x72] | .ldIndHlE => [0x73]
  | .ldIndHlH => [0x74] | .ldIndHlL => [0x75] | .halt => [0x76] | .ldIndHlA => [0x77] | .ldAB => [0x78]
  | .ldAC => [0x79] | .ldAD => [0x7A] | .ldAE => [0x7B] | .ldAH => [0x7C] | .ldAL => [0x7D] | .ldAIndHl => [0x7E]
  | .ldAA => [0x7F] | .addAB => [0x80] | .addAC => [0x81] | .addAD => [0x82] | .addAE => [0x83] | .addAH => [0x84]
  | .addAL => [0x85] | .addAIndHl => [0x86] | .addAA => [0x87] | .adcAB => [0x88] | .adcAC => [0x89]
  | .adcAD => [0x8A] | .adcAE => [0x8B] | .adcAH => [0x8C] | .adcAL => [0x8D] | .adcAIndHl => [0x8E]
  | .adcAA => [0x8F] | .subB => [0x90] | .subC => [0x91] | .subD => [0x92] | .subE => [0x93] | .subH => [0x94]
  | .subL => [0x95] | .subIndHl => [0x96] | .subA => [0x97] | .sbcAB => [0x98] | .sbcAC => [0x99] | .sbcAD => [0x9A]
  | .sbcAE => [0x9B] | .sbcAH => [0x9C] | .sbcAL => [0x9D] | .sbcAIndHl => [0x9E] | .sbcAA => [0x9F]
  | .andB => [0xA0] | .andC => [0xA1] | .andD => [0xA2] | .andE => [0xA3] | .andH => [0xA4] | .andL => [0xA5]
  | .andIndHl => [0xA6] | .andA => [0xA7] | .xorB => [0xA8] | .xorC => [0xA9] | .xorD => [0xAA] | .xorE => [0xAB]
  | .xorH => [0xAC] | .xorL => [0xAD] | .xorIndHl => [0xAE] | .xorA => [0xAF] | .orB => [0xB0] | .orC => [0xB1]
  | .orD => [0xB2] | .orE => [0xB3] | .orH => [0xB4] | .orL => [0xB5] | .orIndHl => [0xB6] | .orA => [0xB7]
  | .cpB => [0xB8] | .cpC => [0xB9] | .cpD => [0xBA] | .cpE => [0xBB] | .cpH => [0xBC] | .cpL => [0xBD]
  | .cpIndHl => [0xBE] | .cpA => [0xBF] | .retNz => [0xC0] | .popBc => [0xC1]
  | .jpNzA16 nn => [0xC2, loByte nn, hiByte nn] | .jpA16 nn => [0xC3, loByte nn, hiByte nn]
  | .callNzA16 nn => [0xC4, loByte nn, hiByte nn] | .pushBc => [0xC5] | .addAD8 n => [0xC6, n] | .rst00 => [0xC7]
  | .retZ => [0xC8] | .ret => [0xC9] | .jpZA16 nn => [0xCA, loByte nn, hiByte nn] | .prefixCb => [0xCB]
  | .callZA16 nn => [0xCC, loByte nn, hiByte nn] | .callA16 nn => [0xCD, loByte nn, hiByte nn]
  | .adcAD8 n => [0xCE, n] | .rst08 => [0xCF] | .retNc => [0xD0] | .popDe => [0xD1]
  | .jpNcA16 nn => [0xD2, loByte nn, hiByte nn] | .invalid op => [op] | .callNcA16 nn => [0xD4, loByte nn, hiByte nn]
  | .pushDe => [0xD5] | .subD8 n => [0xD6, n] | .rst10 => [0xD7] | .retC => [0xD8] | .reti => [0xD9]
  | .jpCA16 nn => [0xDA, loByte nn, hiByte nn] | .callCA16 nn => [0xDC, loByte nn, hiByte nn]
  | .sbcAD8 n => [0xDE, n] | .rst18 => [0xDF] | .ldhIndA8A n => [0xE0, n] | .popHl => [0xE1] | .ldIndCA => [0xE2]
  | .pushHl => [0xE5] | .andD8 n => [0xE6, n] | .rst20 => [0xE7] | .addSpR8 e => [0xE8, e] | .jpIndHl => [0xE9]
  | .ldIndA16A nn => [0xEA, loByte nn, hiByte nn] | .xorD8 n => [0xEE, n] | .rst28 => [0xEF]
  | .ldhAIndA8 n => [0xF0, n] | .popAf => [0xF1] | .ldAIndC => [0xF2] | .di => [0xF3] | .pushAf => [0xF5]
  | .orD8 n => [0xF6, n] | .rst30 => [0xF7] | .ldHlSpR8 e => [0xF8, e] | .ldSpHl => [0xF9]
  | .ldAIndA16 nn => [0xFA, loByte nn, hiByte nn] | .ei => [0xFB] | .cpD8 n => [0xFE, n] | .rst38 => [0xFF]
  | .rlcB => [0xCB, 0x00] | .rlcC => [0xCB, 0x01] | .rlcD => [0xCB, 0x02] | .rlcE => [0xCB, 0x03]
  | .rlcH => [0xCB, 0x04] | .rlcL => [0xCB, 0x05] | .rlcIndHl => [0xCB, 0x06] | .rlcA => [0xCB, 0x07]
  | .rrcB => [0xCB, 0x08] | .rrcC => [0xCB, 0x09] | .rrcD => [0xCB, 0x0A] | .rrcE => [0xCB, 0x0B]
  | .rrcH => [0xCB, 0x0C] | .rrcL => [0xCB, 0x0D] | .rrcIndHl => [0xCB, 0x0E] | .rrcA => [0xCB, 0x0F]
  | .rlB => [0xCB, 0x10] | .rlC => [0xCB, 0x11] | .rlD => [0xCB, 0x12] | .rlE => [0xCB, 0x13] | .rlH => [0xCB, 0x14]
  | .rlL => [0xCB, 0x15] | .rlIndHl => [0xCB, 0x16] | .rlA => [0xCB, 0x17] | .rrB => [0xCB, 0x18]
  | .rrC => [0xCB, 0x19] | .rrD => [0xCB, 0x1A] | .rrE => [0xCB, 0x1B] | .rrH => [0xCB, 0x1C] | .rrL => [0xCB, 0x1D]
  | .rrIndHl => [0xCB, 0x1E] | .rrA => [0xCB, 0x1F] | .slaB => [0xCB, 0x20] | .slaC => [0xCB, 0x21]
  | .slaD => [0xCB, 0x22] | .slaE => [0xCB, 0x23] | .slaH => [0xCB, 0x24] | .slaL => [0xCB, 0x25]
  | .slaIndHl => [0xCB, 0x26] | .slaA => [0xCB, 0x27] | .sraB => [0xCB, 0x28] | .sraC => [0xCB, 0x29]
  | .sraD => [0xCB, 0x2A] | .sraE => [0xCB, 0x2B] | .sraH => [0xCB, 0x2C] | .sraL => [0xCB, 0x2D]
  | .sraIndHl => [0xCB, 0x2E] | .sraA => [0xCB, 0x2F] | .swapB => [0xCB, 0x30] | .swapC => [0xCB, 0x31]
  | .swapD => [0xCB, 0x32] | .swapE => [0xCB, 0x33] | .swapH => [0xCB, 0x34] | .swapL => [0xCB, 0x35]
  | .swapIndHl => [0xCB, 0x36] | .swapA => [0xCB, 0x37] | .srlB => [0xCB, 0x38] | .srlC => [0xCB, 0x39]
  | .srlD => [0xCB, 0x3A] | .srlE => [0xCB, 0x3B] | .srlH => [0xCB, 0x3C] | .srlL => [0xCB, 0x3D]
  | .srlIndHl => [0xCB, 0x3E] | .srlA => [0xCB, 0x3F] | .bit0B => [0xCB, 0x40] | .bit0C => [0xCB, 0x41]
  | .bit0D => [0xCB, 0x42] | .bit0E => [0xCB, 0x43] | .bit0H => [0xCB, 0x44] | .bit0L => [0xCB, 0x45]
  | .bit0IndHl => [0xCB, 0x46] | .bit0A => [0xCB, 0x47] | .bit1B => [0xCB, 0x48] | .bit1C => [0xCB, 0x49]
  | .bit1D => [0xCB, 0x4A] | .bit1E => [0xCB, 0x4B] | .bit1H => [0xCB, 0x4C] | .bit1L => [0xCB, 0x4D]
  | .bit1IndHl => [0xCB, 0x4E] | .bit1A => [0xCB, 0x4F] | .bit2B => [0xCB, 0x50] | .bit2C => [0xCB, 0x51]
  | .bit2D => [0xCB, 0x52] | .bit2E => [0xCB, 0x53] | .bit2H => [0xCB, 0x54] | .bit2L => [0xCB, 0x55]
  | .bit2IndHl => [0xCB, 0x56] | .bit2A => [0xCB, 0x57] | .bit3B => [0xCB, 0x58] | .bit3C => [0xCB, 0x59]
  | .bit3D => [0xCB, 0x5A] | .bit3E => [0xCB, 0x5B] | .bit3H => [0xCB, 0x5C] | .bit3L => [0xCB, 0x5D]
  | .bit3IndHl => [0xCB, 0x5E] | .bit3A => [0xCB, 0x5F] | .bit4B => [0xCB, 0x60] | .bit4C => [0xCB, 0x61]
  | .bit4D => [0xCB, 0x62] | .bit4E => [0xCB, 0x63] | .bit4H => [0xCB, 0x64] | .bit4L => [0xCB, 0x65]
  | .bit4IndHl => [0xCB, 0x66] | .bit4A => [0xCB, 0x67] | .bit5B => [0xCB, 0x68] | .bit5C => [0xCB, 0x69]
  | .bit5D => [0xCB, 0x6A] | .bit5E => [0xCB, 0x6B] | .bit5H => [0xCB, 0x6C] | .bit5L => [0xCB, 0x6D]
  | .bit5IndHl => [0xCB, 0x6E] | .bit5A => [0xCB, 0x6F] | .bit6B => [0xCB, 0x70] | .bit6C => [0xCB, 0x71]
  | .bit6D => [0xCB, 0x72] | .bit6E => [0xCB, 0x73] | .bit6H => [0xCB, 0x74] | .bit6L => [0xCB, 0x75]
  | .bit6IndHl => [0xCB, 0x76] | .bit6A => [0xCB, 0x77] | .bit7B => [0xCB, 0x78] | .bit7C => [0xCB, 0x79]
  | .bit7D => [0xCB, 0x7A] | .bit7E => [0xCB, 0x7B] | .bit7H => [0xCB, 0x7C] | .bit7L => [0xCB, 0x7D]
  | .bit7IndHl => [0xCB, 0x7E] | .bit7A => [0xCB, 0x7F] | .res0B => [0xCB, 0x80] | .res0C => [0xCB, 0x81]
  | .res0D => [0xCB, 0x82] | .res0E => [0xCB, 0x83] | .res0H => [0xCB, 0x84] | .res0L => [0xCB, 0x85]
  | .res0IndHl => [0xCB, 0x86] | .res0A => [0xCB, 0x87] | .res1B => [0xCB, 0x88] | .res1C => [0xCB, 0x89]
  | .res1D => [0xCB, 0x8A] | .res1E => [0xCB, 0x8B] | .res1H => [0xCB, 0x8C] | .res1L => [0xCB, 0x8D]
  | .res1IndHl => [0xCB, 0x8E] | .res1A => [0xCB, 0x8F] | .res2B => [0xCB, 0x90] | .res2C => [0xCB, 0x91]
  | .res2D => [0xCB, 0x92] | .res2E => [0xCB, 0x93] | .res2H => [0xCB, 0x94] | .res2L => [0xCB, 0x95]
  | .res2IndHl => [0xCB, 0x96] | .res2A => [0xCB, 0x97] | .res3B => [0xCB, 0x98] | .res3C => [0xCB, 0x99]
  | .res3D => [0xCB, 0x9A] | .res3E => [0xCB, 0x9B] | .res3H => [0xCB, 0x9C] | .res3L => [0xCB, 0x9D]
  | .res3IndHl => [0xCB, 0x9E] | .res3A => [0xCB, 0x9F] | .res4B => [0xCB, 0xA0] | .res4C => [0xCB, 0xA1]
  | .res4D => [0xCB, 0xA2] | .res4E => [0xCB, 0xA3] | .res4H => [0xCB, 0xA4] | .res4L => [0xCB, 0xA5]
  | .res4IndHl => [0xCB, 0xA6] | .res4A => [0xCB, 0xA7] | .res5B => [0xCB, 0xA8] | .res5C => [0xCB, 0xA9]
  | .res5D => [0xCB, 0xAA] | .res5E => [0xCB, 0xAB] | .res5H => [0xCB, 0xAC] | .res5L => [0xCB, 0xAD]
  | .res5IndHl => [0xCB, 0xAE] | .res5A => [0xCB, 0xAF] | .res6B => [0xCB, 0xB0] | .res6C => [0xCB, 0xB1]
  | .res6D => [0xCB, 0xB2] | .res6E => [0xCB, 0xB3] | .res6H => [0xCB, 0xB4] | .res6L => [0xCB, 0xB5]
  | .res6IndHl => [0xCB, 0xB6] | .res6A => [0xCB, 0xB7] | .res7B => [0xCB, 0xB8] | .res7C => [0xCB, 0xB9]
  | .res7D => [0xCB, 0xBA] | .res7E => [0xCB, 0xBB] | .res7H => [0xCB, 0xBC] | .res7L => [0xCB, 0xBD]
  | .res7IndHl => [0xCB, 0xBE] | .res7A => [0xCB, 0xBF] | .set0B => [0xCB, 0xC0] | .set0C => [0xCB, 0xC1]
  | .set0D => [0xCB, 0xC2] | .set0E => [0xCB, 0xC3] | .set0H => [0xCB, 0xC4] | .set0L => [0xCB, 0xC5]
  | .set0IndHl => [0xCB, 0xC6] | .set0A => [0xCB, 0xC7] | .set1B => [0xCB, 0xC8] | .set1C => [0xCB, 0xC9]
  | .set1D => [0xCB, 0xCA] | .set1E => [0xCB, 0xCB] | .set1H => [0xCB, 0xCC] | .set1L => [0xCB, 0xCD]
  | .set1IndHl => [0xCB, 0xCE] | .set1A => [0xCB, 0xCF] | .set2B => [0xCB, 0xD0] | .set2C => [0xCB, 0xD1]
  | .set2D => [0xCB, 0xD2] | .set2E => [0xCB, 0xD3] | .set2H => [0xCB, 0xD4] | .set2L => [0xCB, 0xD5]
  | .set2IndHl => [0xCB, 0xD6] | .set2A => [0xCB, 0xD7] | .set3B => [0xCB, 0xD8] | .set3C => [0xCB, 0xD9]
  | .set3D => [0xCB, 0xDA] | .set3E => [0xCB, 0xDB] | .set3H => [0xCB, 0xDC] | .set3L => [0xCB, 0xDD]
  | .set3IndHl => [0xCB, 0xDE] | .set3A => [0xCB, 0xDF] | .set4B => [0xCB, 0xE0] | .set4C => [0xCB, 0xE1]
  | .set4D => [0xCB, 0xE2] | .set4E => [0xCB, 0xE3] | .set4H => [0xCB, 0xE4] | .set4L => [0xCB, 0xE5]
  | .set4IndHl => [0xCB, 0xE6] | .set4A => [0xCB, 0xE7] | .set5B => [0xCB, 0xE8] | .set5C => [0xCB, 0xE9]
  | .set5D => [0xCB, 0xEA] | .set5E => [0xCB, 0xEB] | .set5H => [0xCB, 0xEC] | .set5L => [0xCB, 0xED]
  | .set5IndHl => [0xCB, 0xEE] | .set5A => [0xCB, 0xEF] | .set6B => [0xCB, 0xF0] | .set6C => [0xCB, 0xF1]
  | .set6D => [0xCB, 0xF2] | .set6E => [0xCB, 0xF3] | .set6H => [0xCB, 0xF4] | .set6L => [0xCB, 0xF5]
  | .set6IndHl => [0xCB, 0xF6] | .set6A => [0xCB, 0xF7] | .set7B => [0xCB, 0xF8] | .set7C => [0xCB, 0xF9]
  | .set7D => [0xCB, 0xFA] | .set7E => [0xCB, 0xFB] | .set7H => [0xCB, 0xFC] | .set7L => [0xCB, 0xFD]
  | .set7IndHl => [0xCB, 0xFE] | .set7A => [0xCB, 0xFF]

/-! ## Descriptors of instructions -/

/-- How far PC moves before the instruction runs: the prefix byte, if any, and the descriptor's length (30_encoding.md
R134 steps 3 and 6, R136). The fatal error of an invalid slot is raised before PC moves (R134 step 4). -/
def Instr.pcAdvance (i : Instr) : Nat :=
  match i with
  | .invalid _ => 0
  | i =>
    match encode i with
    | op :: e :: _ => if op = 0xCB then 1 + (extendedSlot e).length else (primarySlot op).length
    | op :: [] => (primarySlot op).length
    | [] => 0

/-- The base cycle cost, the cost of the whole instruction for an extended one (30_encoding.md R121, R134 step 6). Nothing
is charged for an invalid slot (60_exceptions.md R401). -/
def Instr.baseCycles (i : Instr) : Nat :=
  match i with
  | .invalid _ => 0
  | i =>
    match encode i with
    | op :: e :: _ => if op = 0xCB then (extendedSlot e).cycles else (primarySlot op).cycles
    | op :: [] => (primarySlot op).cycles
    | [] => 0

/-! ## Words as spec/opcode_table.json numbers them -/

/-- The three bytes, in memory order, of an instruction of the opcode table whose first `nbits` bits are `w` and whose
other bits are 0. Bit 0 is the least significant bit of the first byte, but the table's own 16-bit rows, all of them
extended instructions, write the first byte 0xCB in bits 15..8 (log entry 7, DESIGN CHOICE). -/
def tableBytes (nbits w : Nat) : Byte × Byte × Byte :=
  let v := w % 2 ^ nbits
  let b0 := BitVec.ofNat 8 v
  let b1 := BitVec.ofNat 8 (v / 256)
  let b2 := BitVec.ofNat 8 (v / 65536)
  if nbits = 16 ∧ v / 256 = 0xCB then (b1, b0, b2) else (b0, b1, b2)

/-- What the decoder reads from an instruction numbered as the opcode table numbers it. -/
def decodeTableWord (nbits w : Nat) : Option Instr :=
  let (b0, b1, b2) := tableBytes nbits w
  match decode [b0, b1, b2] with
  | .ok (i, _) => some i
  | .error _ => none

end Sys2Proof
end

