-- ==== Sys2Proof/Config.lean ====
section
/-! DEFINITION. The parameters of the model (00_scope.md R7, 92_eei_decisions.md P1 to P4 and P7), none of which the
spec gives a value: the finite ones as plain data, the PPU collaborator as opaque functions with no body. -/

namespace Sys2Proof

/-- P1 HALT_WAKE_MODE (60_exceptions.md R417). -/
inductive HaltWakeMode where
  /-- Clear Halted and run the next instruction in the same Step. -/
  | resume
  /-- Push PC and jump to the vector, leaving IF and IME alone. -/
  | dispatchNoAck
  deriving DecidableEq, Repr, Inhabited

/-- P2 STOP_MODE (47_system.md R342). -/
inductive StopMode where
  /-- STOP raises Fatal(StopUnsupported). -/
  | fault
  /-- STOP is a two-byte no-op. -/
  | nop2
  deriving DecidableEq, Repr, Inhabited

/-- P3 IE_READ_OR: the bits an IE write forces to 1, 0x00 or 0xE0 (20_memory.md R76). -/
inductive IeReadOr where
  | noBits
  | topThreeBits
  deriving DecidableEq, Repr, Inhabited

/-- The parameters P1, P2, P3 and P7 (SERIAL_CAPTURE, 20_memory.md R83). `State` carries them, so a statement about every
state holds for every choice of them (log entry 1, DESIGN CHOICE). -/
structure Params where
  haltWake : HaltWakeMode
  stopMode : StopMode
  ieReadOr : IeReadOr
  serialCapture : Bool
  deriving DecidableEq, Repr, Inhabited

/-- P4 `PpuState`: the collaborator's state. `vblank` is its InterruptVBlank flag (10_state.md R40); `rest` codes whatever
else it holds, as a number, which any countable state set can be (log entry 2, DEDUCED). An `idle` PPU does not change as
cycles pass, for example one with the LCD off, the PPU of the spec's own test vectors (95_test_vectors.md; log entry 3,
DESIGN CHOICE): it is one of the collaborators the parameter P4 allows, and a collaborator need never be idle. -/
structure PpuState where
  idle : Bool
  vblank : Bool
  rest : Nat
  deriving DecidableEq, Repr, Inhabited

/-- The values of P1, P2, P3 and P7 for a machine right after construction. No body: nothing can tell which they are. -/
opaque Config.params : Params

/-- P4: the PPU's initial state. -/
opaque Config.ppuInit : PpuState

/-- P4 `ppu_read`, a pure read of VRAM or of a PPU register (20_memory.md R68). -/
opaque Config.ppuRead : PpuState → Word → Byte

/-- P4 `ppu_write` (20_memory.md R68). -/
opaque Config.ppuWrite : PpuState → Word → Byte → PpuState

/-- P4 `ppu_cycle`: one clock cycle of a PPU that is not idle (60_exceptions.md R407). -/
opaque Config.ppuCycle : PpuState → PpuState

end Sys2Proof
end

