-- ==== Sys2Proof/Machine/State.lean ====
section
/-! DEFINITION. The state record of 10_state.md R20 as plain data, the reasons a step can stop, and the machine right after
construction (70_reset_and_hazards.md R500). -/

namespace Sys2Proof.Machine

/-- A memory array: the offsets whose byte differs from `unlistedByte`, strictly rising. -/
abbrev Memory := List Host.Cell

/-- What every byte no cell lists reads as: the memory arrays are zero at construction (10_state.md R20; log entry 11). -/
def unlistedByte : Byte := 0x00

/-- The canonical form of a memory array: offsets strictly rising, no cell that says what an unlisted byte reads as. -/
abbrev Memory.wf (m : Memory) : Prop :=
  m.Pairwise (fun x y => x.1 < y.1) ∧ ∀ x ∈ m, x.2 ≠ unlistedByte

/-- Every listed offset lies in an array of `size` bytes. -/
abbrev Memory.within (m : Memory) (size : Nat) : Prop :=
  ∀ x ∈ m, x.1 < size

/-- The seven 8-bit registers (10_state.md R21). -/
structure Regs where
  a : Byte
  b : Byte
  c : Byte
  d : Byte
  e : Byte
  h : Byte
  l : Byte
  deriving DecidableEq, Repr

/-- The four flags (10_state.md R26). -/
structure Flags where
  z : Bool
  n : Bool
  h : Bool
  c : Bool
  deriving DecidableEq, Repr

/-- `JoypadState`: the eight inputs, true when pressed (10_state.md R37). -/
structure Joypad where
  right : Bool
  left : Bool
  up : Bool
  down : Bool
  a : Bool
  b : Bool
  select : Bool
  start : Bool
  deriving DecidableEq, Repr

/-- The state of the machine between two Steps: the record of 10_state.md R20, and two fields of the model's own, the
parameters of 00_scope.md R7 that are plain data (`params`, log entry 1) and the host's joypad snapshots still to come
(`joyInput`, log entry 5). -/
structure State where
  regs : Regs
  flags : Flags
  sp : Word
  pc : Word
  ime : Bool
  halted : Bool
  /-- IE, 0xFFFF (R31). -/
  ie : Byte
  /-- IF, 0xFF0F (R32). -/
  ifl : Byte
  /-- The internal 16-bit divider (R33). -/
  div : Word
  tima : Byte
  tma : Byte
  tac : Byte
  /-- Bits 5..4 last written to 0xFF00 (R37). -/
  joypSel : BitVec 2
  joy : Joypad
  bootOff : Bool
  cycles : Nat
  lastTimerUpdate : Nat
  serialOut : List Byte
  /-- The 8 MiB cartridge ROM buffer, by offset (R39). -/
  rom : Memory
  /-- The 256-byte boot ROM buffer, by offset (R39). -/
  boot : Memory
  ppu : PpuState
  /-- External RAM, offsets from 0xA000. -/
  xram : Memory
  /-- Work RAM, offsets from 0xC000. -/
  wram : Memory
  /-- OAM, offsets from 0xFE00. -/
  oam : Memory
  /-- Plain storage behind the I/O addresses, offsets from 0xFF00. -/
  io : Memory
  /-- High RAM, offsets from 0xFF80. -/
  hram : Memory
  faulted : Bool
  params : Params
  /-- One entry a Step: the snapshot the host has ready for it, if any. The empty list has none for ever. -/
  joyInput : List (Option Joypad)
  deriving DecidableEq, Repr

/-- Why a Step ends the run (60_exceptions.md R401 to R405). `left` is the state the machine is left in: a meaning gives the
state at the point of the raise, a Step gives it after its timer update and with `faulted` set (log entry 6). -/
inductive Fault where
  /-- Fatal(OpcodeNotFound), raised by the meaning of `invalid` for one of the eleven invalid slots (R401). Safe: the
  spec ends the run there. -/
  | opcodeNotFound (table : DecodeTable) (op : Byte) (addr : Word) (left : State)
  /-- Fatal(StopUnsupported), raised by STOP when STOP_MODE is `fault` (R404). Safe: the spec ends the run there. -/
  | stopUnsupported (addr : Word) (left : State)
  /-- A Step of a machine that a fatal error has already ended: "No Step may run once `faulted` is true" (R405). Safe: a
  stuck state. -/
  | alreadyFaulted
  deriving DecidableEq, Repr

/-- Why an instruction has no meaning. No arm of this model refuses. -/
inductive Refusal where
  /-- Raised by an arm of `exec` for an instruction with no meaning yet. Safe: nothing is claimed of it. -/
  | notModelled (mnemonic : String)
  deriving DecidableEq, Repr

/-- What an instruction or a Step answers. -/
abbrev Result := Host.Outcome State Fault Refusal

/-- Construction (70_reset_and_hazards.md R500): the "construction" column of 10_state.md R20, nothing loaded. The PPU is in
its initial state (P4) and the parameters have their unknown values; both are constants with no body. -/
def State.reset : State where
  regs := { a := 0x00, b := 0x00, c := 0x00, d := 0x00, e := 0x00, h := 0x00, l := 0x00 }
  flags := { z := false, n := false, h := false, c := false }
  sp := 0x0000
  pc := 0x0000
  ime := false
  halted := false
  ie := 0x00
  ifl := 0xE0
  div := 0x0000
  tima := 0x00
  tma := 0x00
  tac := 0xF8
  joypSel := 0b00
  joy := { right := false, left := false, up := false, down := false, a := false, b := false, select := false, start := false }
  bootOff := false
  cycles := 0
  lastTimerUpdate := 0
  serialOut := []
  rom := []
  boot := []
  ppu := Config.ppuInit
  xram := []
  wram := []
  oam := []
  io := []
  hram := []
  faulted := false
  params := Config.params
  joyInput := []

end Sys2Proof.Machine
end

