-- ==== Sys2Proof/Machine/Flags.lean ====
section
/-! DEFINITION. The flags byte and every value-and-flag computation of the instruction set, as functions of operand values
alone. Sums are taken exactly, as natural numbers or integers, and truncated at the end, as the spec writes them. -/

namespace Sys2Proof.Machine

/-- A Boolean as a byte, 0 or 1 (00_scope.md R8). -/
def bit8 (b : Bool) : Byte := if b then 1 else 0

/-- `pack(F)` (10_state.md R24). -/
def packFlags (f : Flags) : Byte :=
  (bit8 f.z <<< 7) ||| (bit8 f.n <<< 6) ||| (bit8 f.h <<< 5) ||| (bit8 f.c <<< 4)

/-- `unpack(b)` (10_state.md R25): bits 3..0 are ignored. -/
def unpackFlags (b : Byte) : Flags :=
  { z := b.getLsbD 7, n := b.getLsbD 6, h := b.getLsbD 5, c := b.getLsbD 4 }

/-- ADD and ADC (42_alu8.md R252, R253): half-carry out of bit 3, carry out of bit 7. -/
def addCarry (a v : Byte) (cin : Bool) : Byte × Flags :=
  let res := a.toNat + v.toNat + cin.toNat
  (BitVec.ofNat 8 res,
    { z := BitVec.ofNat 8 res == 0
      n := false
      h := decide (a.toNat % 16 + v.toNat % 16 + cin.toNat > 0x0F)
      c := decide (res > 0xFF) })

/-- SUB, SBC and CP (42_alu8.md R254, R255, R259): half-borrow and borrow. -/
def subBorrow (a v : Byte) (cin : Bool) : Byte × Flags :=
  let res : Int := a.toNat - v.toNat - cin.toNat
  (BitVec.ofInt 8 res,
    { z := BitVec.ofInt 8 res == 0
      n := true
      h := decide (a.toNat % 16 < v.toNat % 16 + cin.toNat)
      c := decide (a.toNat < v.toNat + cin.toNat) })

/-- AND, XOR and OR set Z from the result, clear N and C, and set H as the rule says (42_alu8.md R256 to R258). -/
def logicResult (r : Byte) (h : Bool) : Byte × Flags :=
  (r, { z := r == 0, n := false, h := h, c := false })

/-- The two-operand 8-bit operations on the accumulator `a`, the source value `v` and the carry flag: the value A takes and
the flags (42_alu8.md R252 to R259). CP keeps A. -/
def aluResult (op : AluOp) (a v : Byte) (cin : Bool) : Byte × Flags :=
  match op with
  | .add => addCarry a v false
  | .adc => addCarry a v cin
  | .sub => subBorrow a v false
  | .sbc => subBorrow a v cin
  | .and => logicResult (a &&& v) true
  | .xor => logicResult (a ^^^ v) false
  | .or => logicResult (a ||| v) false
  | .cp => (a, (subBorrow a v false).2)

/-- `increment(v)` (42_alu8.md R251, 90_conflicts.md C2). -/
def increment (v : Byte) : Byte × Bool :=
  (BitVec.ofNat 8 (v.toNat + 1), decide (v.toNat % 16 + 1 > 0x0F))

/-- `decrement(v)` (42_alu8.md R251, 90_conflicts.md C2). -/
def decrement (v : Byte) : Byte × Bool :=
  (BitVec.ofInt 8 (v.toNat - 1), decide (v.toNat % 16 = 0x00))

/-- The flags of INC: Z, N = 0, H; C unchanged (42_alu8.md R260, R261). -/
def incFlags (f : Flags) (v : Byte) : Flags :=
  { f with z := (increment v).1 == 0, n := false, h := (increment v).2 }

/-- The flags of DEC: Z, N = 1, H; C unchanged (42_alu8.md R262, R263). -/
def decFlags (f : Flags) (v : Byte) : Flags :=
  { f with z := (decrement v).1 == 0, n := true, h := (decrement v).2 }

/-- DAA (42_alu8.md R264). -/
def daaResult (a : Byte) (f : Flags) : Byte × Flags :=
  let addHigh : Bool := f.c || decide (a.toNat > 0x99)
  let addLow : Bool := f.h || decide (a.toNat % 16 > 0x09)
  let r : Byte :=
    if f.n then BitVec.ofInt 8 (a.toNat - 0x60 * f.c.toNat - 0x06 * f.h.toNat)
    else BitVec.ofNat 8 (a.toNat + 0x60 * addHigh.toNat + 0x06 * addLow.toNat)
  (r, { f with z := r == 0, h := false, c := if f.n then f.c else addHigh })

/-- ADD HL,rr (43_alu16.md R280): carries out of bits 11 and 15, Z unchanged. -/
def addHlResult (hl v : Word) (f : Flags) : Word × Flags :=
  let res := hl.toNat + v.toNat
  (BitVec.ofNat 16 res,
    { f with n := false, h := decide (hl.toNat % 4096 + v.toNat % 4096 > 0x0FFF), c := decide (res > 0xFFFF) })

/-- ADD SP,r8 and LD HL,SP+r8 (43_alu16.md R281, 41_load16_stack.md R234): the displacement is signed for the sum, and its
byte unsigned for the flags. -/
def spPlusResult (sp : Word) (e : Byte) : Word × Flags :=
  (sp + sext16 e,
    { z := false
      n := false
      h := decide (sp.toNat % 16 + e.toNat % 16 > 0x0F)
      c := decide (sp.toNat % 256 + e.toNat > 0xFF) })

/-- The rotates and shifts: the result and the carry out (44_rotate_shift.md R290 to R302). -/
def rotResult (op : RotOp) (v : Byte) (cin : Bool) : Byte × Bool :=
  match op with
  | .rlc => ((v <<< 1) ||| bit8 (v.getLsbD 7), v.getLsbD 7)
  | .rrc => ((v >>> 1) ||| (bit8 (v.getLsbD 0) <<< 7), v.getLsbD 0)
  | .rl => ((v <<< 1) ||| bit8 cin, v.getLsbD 7)
  | .rr => ((v >>> 1) ||| (bit8 cin <<< 7), v.getLsbD 0)
  | .sla => (v <<< 1, v.getLsbD 7)
  | .sra => ((v >>> 1) ||| (v &&& 0x80), v.getLsbD 0)
  | .swap => (((v &&& 0x0F) <<< 4) ||| (v >>> 4), false)
  | .srl => (v >>> 1, v.getLsbD 0)

/-- The flags of an extended-table rotate or shift: Z from the result (44_rotate_shift.md R295 to R302). -/
def rotFlags (op : RotOp) (v : Byte) (cin : Bool) : Flags :=
  { z := (rotResult op v cin).1 == 0, n := false, h := false, c := (rotResult op v cin).2 }

/-- The flags of an accumulator rotate: Z is always 0 (44_rotate_shift.md R290 to R293). -/
def accRotFlags (op : RotOp) (v : Byte) (cin : Bool) : Flags :=
  { z := false, n := false, h := false, c := (rotResult op v cin).2 }

/-- BIT: Z is the complement of the tested bit, N = 0, H = 1, C unchanged (45_bit.md R310, R311). -/
def bitFlags (f : Flags) (b : Fin 8) (v : Byte) : Flags :=
  { f with z := !v.getLsbD b.val, n := false, h := true }

/-- RES (45_bit.md R312). -/
def resBit (b : Fin 8) (v : Byte) : Byte := v &&& ~~~((1 : Byte) <<< b.val)

/-- SET (45_bit.md R313). -/
def setBit (b : Fin 8) (v : Byte) : Byte := v ||| ((1 : Byte) <<< b.val)

/-- CPL: N = 1, H = 1 (42_alu8.md R265). -/
def cplFlags (f : Flags) : Flags := { f with n := true, h := true }

/-- SCF: N = 0, H = 0, C = 1 (42_alu8.md R266). -/
def scfFlags (f : Flags) : Flags := { f with n := false, h := false, c := true }

/-- CCF: N = 0, H = 0, C inverted (42_alu8.md R267). -/
def ccfFlags (f : Flags) : Flags := { f with n := false, h := false, c := !f.c }

/-- `cond(cc)` (46_control.md R320). -/
def condHolds (cc : Cond) (f : Flags) : Bool :=
  match cc with
  | .nz => !f.z
  | .z => f.z
  | .nc => !f.c
  | .c => f.c

end Sys2Proof.Machine
end

