-- ==== Sys2Proof/Machine/Ops.lean ====
section
/-! DEFINITION. The named operations every meaning is written over: fields, registers, the memory map and the I/O register
bank (20_memory.md), the stack, taking an interrupt and returning from one. -/

namespace Sys2Proof.Machine

/-! ## One update a field -/

def State.setRegs (s : State) (v : Regs) : State := { s with regs := v }
def State.setFlags (s : State) (v : Flags) : State := { s with flags := v }
def State.setSp (s : State) (v : Word) : State := { s with sp := v }
def State.setPc (s : State) (v : Word) : State := { s with pc := v }
def State.setIme (s : State) (v : Bool) : State := { s with ime := v }
def State.setHalted (s : State) (v : Bool) : State := { s with halted := v }
def State.setIe (s : State) (v : Byte) : State := { s with ie := v }
def State.setIf (s : State) (v : Byte) : State := { s with ifl := v }
def State.setDiv (s : State) (v : Word) : State := { s with div := v }
def State.setTima (s : State) (v : Byte) : State := { s with tima := v }
def State.setTma (s : State) (v : Byte) : State := { s with tma := v }
def State.setTac (s : State) (v : Byte) : State := { s with tac := v }
def State.setJoypSel (s : State) (v : BitVec 2) : State := { s with joypSel := v }
def State.setJoy (s : State) (v : Joypad) : State := { s with joy := v }
def State.setBootOff (s : State) (v : Bool) : State := { s with bootOff := v }
def State.setCycles (s : State) (v : Nat) : State := { s with cycles := v }
def State.setLastTimerUpdate (s : State) (v : Nat) : State := { s with lastTimerUpdate := v }
def State.setSerialOut (s : State) (v : List Byte) : State := { s with serialOut := v }
def State.setRom (s : State) (v : Memory) : State := { s with rom := v }
def State.setBoot (s : State) (v : Memory) : State := { s with boot := v }
def State.setPpu (s : State) (v : PpuState) : State := { s with ppu := v }
def State.setXram (s : State) (v : Memory) : State := { s with xram := v }
def State.setWram (s : State) (v : Memory) : State := { s with wram := v }
def State.setOam (s : State) (v : Memory) : State := { s with oam := v }
def State.setIo (s : State) (v : Memory) : State := { s with io := v }
def State.setHram (s : State) (v : Memory) : State := { s with hram := v }
def State.setFaulted (s : State) (v : Bool) : State := { s with faulted := v }
def State.setJoyInput (s : State) (v : List (Option Joypad)) : State := { s with joyInput := v }

/-- `cycles <- cycles + n` (00_scope.md R10). -/
def State.charge (s : State) (n : Nat) : State := s.setCycles (s.cycles + n)

/-! ## Registers -/

/-- `R8[r]` (00_scope.md R9). -/
def State.reg (s : State) (r : Reg8) : Byte :=
  match r with
  | .a => s.regs.a
  | .b => s.regs.b
  | .c => s.regs.c
  | .d => s.regs.d
  | .e => s.regs.e
  | .h => s.regs.h
  | .l => s.regs.l

/-- `R8[r] <- v` (00_scope.md R9). -/
def State.setReg (s : State) (r : Reg8) (v : Byte) : State :=
  s.setRegs
    (match r with
    | .a => { s.regs with a := v }
    | .b => { s.regs with b := v }
    | .c => { s.regs with c := v }
    | .d => { s.regs with d := v }
    | .e => { s.regs with e := v }
    | .h => { s.regs with h := v }
    | .l => { s.regs with l := v })

/-- `R16[rr]` (00_scope.md R9, 10_state.md R22, R23). -/
def State.pair (s : State) (rr : Reg16) : Word :=
  match rr with
  | .af => wordOf s.regs.a (packFlags s.flags)
  | .bc => wordOf s.regs.b s.regs.c
  | .de => wordOf s.regs.d s.regs.e
  | .hl => wordOf s.regs.h s.regs.l
  | .sp => s.sp

/-- `R16[rr] <- v` (00_scope.md R9, 10_state.md R22, R23, R25). -/
def State.setPair (s : State) (rr : Reg16) (v : Word) : State :=
  match rr with
  | .af => (s.setReg .a (hiByte v)).setFlags (unpackFlags (loByte v))
  | .bc => (s.setReg .b (hiByte v)).setReg .c (loByte v)
  | .de => (s.setReg .d (hiByte v)).setReg .e (loByte v)
  | .hl => (s.setReg .h (hiByte v)).setReg .l (loByte v)
  | .sp => s.setSp v

/-- HL, the indirect memory pointer (10_state.md R22). -/
def State.hl (s : State) : Word := s.pair .hl

/-! ## Memory arrays -/

/-- The byte at an offset of a memory array. -/
def Memory.read (m : Memory) (a : Nat) : Byte :=
  match m with
  | [] => unlistedByte
  | (k, w) :: rest => if k = a then w else Memory.read rest a

/-- Store a byte at an offset, keeping the canonical form. -/
def Memory.write (m : Memory) (a : Nat) (v : Byte) : Memory :=
  match m with
  | [] => if v = unlistedByte then [] else [(a, v)]
  | (k, w) :: rest =>
    if a < k then (if v = unlistedByte then (k, w) :: rest else (a, v) :: (k, w) :: rest)
    else if a = k then (if v = unlistedByte then rest else (a, v) :: rest)
    else (k, w) :: Memory.write rest a v

/-- Consecutive bytes from an offset on, as cells, bytes equal to `unlistedByte` left out. -/
def Memory.ofBytes (start : Nat) (bytes : List Byte) : Memory :=
  match bytes with
  | [] => []
  | v :: rest =>
    if v = unlistedByte then Memory.ofBytes (start + 1) rest else (start, v) :: Memory.ofBytes (start + 1) rest

/-! ## The memory map -/

/-- The twelve regions of 20_memory.md R61, in its order. -/
inductive Region where
  | romBank0 | romBank1 | vram | externalRam | workRam0 | workRam1 | echoRam | oam | unusable | ioRegisters | highRam
  | interruptEnable
  deriving DecidableEq, Repr

/-- `classify(addr)` (20_memory.md R61, R62). -/
def classify (addr : Word) : Region :=
  let a := addr.toNat
  if a < 0x4000 then .romBank0
  else if a < 0x8000 then .romBank1
  else if a < 0xA000 then .vram
  else if a < 0xC000 then .externalRam
  else if a < 0xD000 then .workRam0
  else if a < 0xE000 then .workRam1
  else if a < 0xFE00 then .echoRam
  else if a < 0xFEA0 then .oam
  else if a < 0xFF00 then .unusable
  else if a < 0xFF80 then .ioRegisters
  else if a < 0xFFFF then .highRam
  else .interruptEnable

/-- The I/O registers of 20_memory.md R80; `plain` is every address with no register of its own. -/
inductive IoReg where
  | joyp | sb | sc | div | tima | tma | tac | ifReg | ppuReg | bootOff | plain
  deriving DecidableEq, Repr

/-- The dispatch table of 20_memory.md R80. -/
def ioReg (addr : Word) : IoReg :=
  let a := addr.toNat
  if a = 0xFF00 then .joyp
  else if a = 0xFF01 then .sb
  else if a = 0xFF02 then .sc
  else if a = 0xFF04 then .div
  else if a = 0xFF05 then .tima
  else if a = 0xFF06 then .tma
  else if a = 0xFF07 then .tac
  else if a = 0xFF0F then .ifReg
  else if 0xFF40 ≤ a ∧ a ≤ 0xFF4B then .ppuReg
  else if a = 0xFF50 then .bootOff
  else .plain

/-- Four lines as a nibble, the first Boolean the highest bit. -/
def nibble (b3 b2 b1 b0 : Bool) : Byte :=
  (bit8 b3 <<< 3) ||| (bit8 b2 <<< 2) ||| (bit8 b1 <<< 1) ||| bit8 b0

/-- A JOYP group's select bit is 0, which selects it: bit 0 of `joypSel` the D-pad, bit 1 the buttons (20_memory.md R81). -/
def State.dpadSelected (s : State) : Bool := !s.joypSel.getLsbD 0

def State.buttonsSelected (s : State) : Bool := !s.joypSel.getLsbD 1

/-- The JOYP byte (20_memory.md R81). -/
def State.joypByte (s : State) : Byte :=
  let dpad := nibble (!s.joy.down) (!s.joy.up) (!s.joy.left) (!s.joy.right)
  let buttons := nibble (!s.joy.start) (!s.joy.select) (!s.joy.b) (!s.joy.a)
  let low := (if s.dpadSelected then dpad else 0x0F) &&& (if s.buttonsSelected then buttons else 0x0F)
  0xC0 ||| (s.joypSel.setWidth 8 <<< 4) ||| low

/-- IE_READ_OR (92_eei_decisions.md P3). -/
def State.ieReadOr (s : State) : Byte :=
  match s.params.ieReadOr with
  | .noBits => 0x00
  | .topThreeBits => 0xE0

/-- `FetchIO(addr)` (20_memory.md R80). -/
def State.fetchIo (s : State) (addr : Word) : Byte :=
  match ioReg addr with
  | .joyp => s.joypByte
  | .sb => s.io.read 0x01
  | .sc => s.io.read 0x02
  | .div => hiByte s.div
  | .tima => s.tima
  | .tma => s.tma
  | .tac => s.tac
  | .ifReg => s.ifl
  | .ppuReg => Config.ppuRead s.ppu addr
  | .bootOff => if s.bootOff then 0xFF else 0xFE
  | .plain => s.io.read (addr.toNat - 0xFF00)

/-- SB write: storage, and one more captured byte while SERIAL_CAPTURE is on (20_memory.md R83). -/
def State.writeSb (s : State) (v : Byte) : State :=
  (s.setIo (s.io.write 0x01 v)).setSerialOut (if s.params.serialCapture then s.serialOut ++ [v] else s.serialOut)

/-- `WriteIO(addr, v)` (20_memory.md R80). -/
def State.writeIo (s : State) (addr : Word) (v : Byte) : State :=
  match ioReg addr with
  | .joyp => s.setJoypSel (v.extractLsb' 4 2)
  | .sb => s.writeSb v
  | .sc => s.setIo (s.io.write 0x02 v)
  | .div => s.setDiv 0
  | .tima => s.setTima v
  | .tma => s.setTma v
  | .tac => s.setTac (v ||| 0xF8)
  | .ifReg => s.setIf (v ||| 0xE0)
  | .ppuReg => s.setPpu (Config.ppuWrite s.ppu addr v)
  | .bootOff => s.setBootOff (s.bootOff || v != 0)
  | .plain => s.setIo (s.io.write (addr.toNat - 0xFF00) v)

/-- `MemRead(addr, 1)` (20_memory.md R63). It changes no state. -/
def State.memRead (s : State) (addr : Word) : Byte :=
  let a := addr.toNat
  match classify addr with
  | .romBank0 => if a < 0x0100 ∧ s.bootOff = false then s.boot.read a else s.rom.read a
  | .romBank1 => s.rom.read a
  | .vram => Config.ppuRead s.ppu addr
  | .externalRam => s.xram.read (a - 0xA000)
  | .workRam0 => s.wram.read (a - 0xC000)
  | .workRam1 => s.wram.read (a - 0xC000)
  | .echoRam => s.wram.read (a - 0xE000)
  | .oam => s.oam.read (a - 0xFE00)
  | .unusable => 0xFF
  | .ioRegisters => s.fetchIo addr
  | .highRam => s.hram.read (a - 0xFF80)
  | .interruptEnable => s.ie

/-- `MemWrite(addr, 1, v)` (20_memory.md R64). -/
def State.memWrite (s : State) (addr : Word) (v : Byte) : State :=
  let a := addr.toNat
  match classify addr with
  | .romBank0 => s.setRom (s.rom.write a v)
  | .romBank1 => s.setRom (s.rom.write a v)
  | .vram => s.setPpu (Config.ppuWrite s.ppu addr v)
  | .externalRam => s.setXram (s.xram.write (a - 0xA000) v)
  | .workRam0 => s.setWram (s.wram.write (a - 0xC000) v)
  | .workRam1 => s.setWram (s.wram.write (a - 0xC000) v)
  | .echoRam => s.setWram (s.wram.write (a - 0xE000) v)
  | .oam => s.setOam (s.oam.write (a - 0xFE00) v)
  | .unusable => s
  | .ioRegisters => s.writeIo addr v
  | .highRam => s.setHram (s.hram.write (a - 0xFF80) v)
  | .interruptEnable => s.setIe (v ||| s.ieReadOr)

/-- `MemRead(addr, 2)`: low byte first (20_memory.md R95). -/
def State.memRead16 (s : State) (addr : Word) : Word :=
  let lo := s.memRead addr
  let hi := s.memRead (addr + 1)
  wordOf hi lo

/-- `MemWrite(addr, 2, v)`: low byte first (20_memory.md R96). -/
def State.memWrite16 (s : State) (addr : Word) (v : Word) : State :=
  (s.memWrite addr (loByte v)).memWrite (addr + 1) (hiByte v)

/-! ## The stack -/

/-- `Push16(v)`: high byte first, downwards (41_load16_stack.md R230). -/
def State.push16 (s : State) (v : Word) : State :=
  let s1 := s.setSp (s.sp - 1)
  let s2 := s1.memWrite s1.sp (hiByte v)
  let s3 := s2.setSp (s2.sp - 1)
  s3.memWrite s3.sp (loByte v)

/-- `Pop16()`: low byte first, upwards (41_load16_stack.md R230). -/
def State.pop16 (s : State) : Word × State :=
  let lo := s.memRead s.sp
  let s1 := s.setSp (s.sp + 1)
  let hi := s1.memRead s1.sp
  (wordOf hi lo, s1.setSp (s1.sp + 1))

/-! ## Interrupts: taking one, and the return from one -/

/-- The interrupt sources that are ever serviced (60_exceptions.md R410). LCD-STAT (bit 1, vector 0x0048) and Serial (bit 3,
vector 0x0058) are bits of IF and IE and nothing more: "tests must treat them as perpetually unserviced". -/
inductive IntSource where
  | vblank | timer | joypad
  deriving DecidableEq, Repr

/-- The source's bit of IF and IE (60_exceptions.md R410). -/
def IntSource.bit (src : IntSource) : Nat :=
  match src with
  | .vblank => 0
  | .timer => 2
  | .joypad => 4

/-- The source's vector (60_exceptions.md R410). -/
def IntSource.vector (src : IntSource) : Word :=
  match src with
  | .vblank => 0x0040
  | .timer => 0x0050
  | .joypad => 0x0060

/-- `IF[bit] <- 1` (60_exceptions.md R411). -/
def State.requestInterrupt (s : State) (src : IntSource) : State :=
  s.setIf (s.ifl ||| ((1 : Byte) <<< src.bit))

/-- `IF[bit] <- 0` (60_exceptions.md R411). -/
def State.acknowledge (s : State) (src : IntSource) : State :=
  s.setIf (s.ifl &&& ~~~((1 : Byte) <<< src.bit))

/-- What every interrupt entry does: the address of the next instruction is pushed, PC goes to the vector, Halted is
cleared and 20 cycles are charged (60_exceptions.md R416, R417). -/
def State.enterHandler (s : State) (src : IntSource) : State :=
  let s1 := s.push16 s.pc
  ((s1.setPc src.vector).setHalted false).charge 20

/-- `Service(s)` (60_exceptions.md R416): the IF bit is cleared before the push, and IME is cleared. -/
def State.service (s : State) (src : IntSource) : State :=
  ((s.acknowledge src).enterHandler src).setIme false

/-- `pc <- Pop16()` (46_control.md R328). -/
def State.popPc (s : State) : State :=
  let (v, s1) := s.pop16
  s1.setPc v

/-- The return from an interrupt: `pc <- Pop16(); IME <- 1` (46_control.md R330). -/
def State.returnFromInterrupt (s : State) : State :=
  s.popPc.setIme true

end Sys2Proof.Machine
end

