-- ==== Sys2Proof/Machine/Cycle.lean ====
section
/-! DEFINITION. The phases of a Step around the instruction (60_exceptions.md R400): joypad sample, V-Blank latch, interrupt
check, fetch and decode, timer update, the end of a Step, and the driver's PPU advance. `stepWith` puts them together over
the meanings of the instructions. -/

namespace Sys2Proof.Machine

/-! ## Phases 1 to 3 -/

/-- The request of `JoypadSample()`: an input of a selected group is true in `snap` and false in `old`, and IE[4] is 1
(60_exceptions.md R421). -/
def joypadHit (s : State) (snap : Joypad) : Bool :=
  let old := s.joy
  let dpadPressed :=
    (snap.right && !old.right) || (snap.left && !old.left) || (snap.up && !old.up) || (snap.down && !old.down)
  let buttonPressed :=
    (snap.a && !old.a) || (snap.b && !old.b) || (snap.select && !old.select) || (snap.start && !old.start)
  ((dpadPressed && s.dpadSelected) || (buttonPressed && s.buttonsSelected)) && s.ie.getLsbD IntSource.joypad.bit

/-- `JoypadSample()`: at most one snapshot of the host's stream a Step (60_exceptions.md R421). -/
def State.joypadSample (s : State) : State :=
  match s.joyInput with
  | [] => s
  | none :: later => s.setJoyInput later
  | some snap :: later =>
    let t := if joypadHit s snap then s.requestInterrupt .joypad else s
    (t.setJoy snap).setJoyInput later

/-- `ppu_vblank` (92_eei_decisions.md P4): the InterruptVBlank flag, and the PPU state with it cleared. -/
def ppuVblank (p : PpuState) : Bool × PpuState := (p.vblank, { p with vblank := false })

/-- `VBlankLatch()` (60_exceptions.md R420). Without a pulse the PPU state with the flag cleared is the PPU state. -/
def State.vblankLatch (s : State) : State :=
  let (pulse, p) := ppuVblank s.ppu
  (s.setIf (if pulse then (s.requestInterrupt .vblank).ifl else s.ifl)).setPpu p

/-- Phases 1 and 2 (60_exceptions.md R400). -/
def State.beginStep (s : State) : State := s.joypadSample.vblankLatch

/-- The source's IF bit and IE bit are both 1 (60_exceptions.md R411, R412). -/
def State.pending (s : State) (src : IntSource) : Bool :=
  s.ifl.getLsbD src.bit && s.ie.getLsbD src.bit

/-- The first pending source in the order Timer, V-Blank, Joypad, "skipped entirely unless IME is set OR the CPU is halted"
(60_exceptions.md R414, R415). -/
def State.interruptCheck (s : State) : Option IntSource :=
  if s.ime || s.halted then
    if s.pending .timer then some .timer
    else if s.pending .vblank then some .vblank
    else if s.pending .joypad then some .joypad
    else none
  else none

/-! ## Phases 5 to 7: fetch and decode -/

/-- The bytes a fetch may need. Reads have no side effect (20_memory.md R63), so that the third is read for a shorter
instruction too changes nothing. -/
def State.fetchBytes (s : State) : List Byte :=
  [s.memRead s.pc, s.memRead (s.pc + 1), s.memRead (s.pc + 2)]

/-- The instruction at PC (30_encoding.md R134 steps 1 to 5). -/
def State.fetchInstr (s : State) : Instr :=
  decode3 (s.memRead s.pc) (s.memRead (s.pc + 1)) (s.memRead (s.pc + 2))

/-- PC past the instruction and its base cycles charged (30_encoding.md R134 step 6). -/
def State.advancePast (s : State) (i : Instr) : State :=
  (s.setPc (s.pc + BitVec.ofNat 16 i.pcAdvance)).charge i.baseCycles

/-! ## Phase 8: the timer -/

/-- The value mask and the overflow bit mask of a timer speed (60_exceptions.md R431, 90_conflicts.md C1). -/
def timerMasks (speed : BitVec 2) : Nat × Nat :=
  match speed.toFin with
  | 0 => (0x3FF, 0x400)
  | 1 => (0x00F, 0x010)
  | 2 => (0x03F, 0x040)
  | 3 => (0x0FF, 0x100)

/-- `TimaIncrement()`: a wrap reloads TMA and requests the timer interrupt (60_exceptions.md R432, R433). -/
def State.timaIncrement (s : State) : State :=
  if s.tima = 0xFF then (s.setTima s.tma).requestInterrupt .timer else s.setTima (s.tima + 1)

/-- `delta` carries into the overflow bit of the divider, at most once an update (60_exceptions.md R430). -/
def timerCarries (tac : Byte) (oldDiv : Word) (delta : Nat) : Bool :=
  let (vm, om) := timerMasks (tac.extractLsb' 0 2)
  tac.getLsbD 2 && ((((oldDiv.toNat &&& vm) + (delta &&& vm)) &&& om) != 0)

/-- `TimerUpdate()` (60_exceptions.md R430). -/
def State.timerUpdate (s : State) : State :=
  if s.cycles ≤ s.lastTimerUpdate then s
  else
    let delta := s.cycles - s.lastTimerUpdate
    let s1 := s.setDiv (s.div + BitVec.ofNat 16 delta)
    let s2 := if timerCarries s.tac s.div delta then s1.timaIncrement else s1
    s2.setLastTimerUpdate s.cycles

/-! ## The end of a Step -/

/-- A fault with the state it leaves changed by `f`. -/
def Fault.mapLeft (f : State → State) (r : Fault) : Fault :=
  match r with
  | .opcodeNotFound table op addr left => .opcodeNotFound table op addr (f left)
  | .stopUnsupported addr left => .stopUnsupported addr (f left)
  | .alreadyFaulted => .alreadyFaulted

/-- After a fatal error: the timer update runs "regardless of outcome", then `faulted <- true` (60_exceptions.md R405). -/
def State.endRun (s : State) : State := s.timerUpdate.setFaulted true

/-- Phase 8 and the answer of the Step (60_exceptions.md R400, R405). -/
def endStep (r : Result) : Result :=
  match r with
  | .next t => .next t.timerUpdate
  | .fault e => .fault (e.mapLeft State.endRun)
  | .refused e => .refused e

/-! ## The Step -/

/-- Phases 5 to 8 (60_exceptions.md R400, 30_encoding.md R134). -/
def runInstruction (exec : Instr → State → Result) (s : State) : Result :=
  endStep (exec s.fetchInstr (s.advancePast s.fetchInstr))

/-- `Step()` (60_exceptions.md R400), over the meanings of the instructions: an interrupt service, the wake-up of a halted
CPU with IME = 0 by HALT_WAKE_MODE (R417), a halted idle period of 4 cycles (R422), or one instruction. -/
def coreStepWith (exec : Instr → State → Result) (s : State) : Result :=
  if s.faulted then .fault .alreadyFaulted
  else
    let s1 := s.beginStep
    match s1.interruptCheck with
    | some src =>
      if s1.ime then endStep (.next (s1.service src))
      else
        match s1.params.haltWake with
        | .resume => runInstruction exec (s1.setHalted false)
        | .dispatchNoAck => endStep (.next (s1.enterHandler src))
    | none => if s1.halted then endStep (.next (s1.charge 4)) else runInstruction exec s1

/-- `ppu_cycle` (92_eei_decisions.md P4); an idle PPU does not change (log entry 3). -/
def ppuTick (p : PpuState) : PpuState := if p.idle then p else Config.ppuCycle p

/-- `ppu_cycle^n`. -/
def ppuTicks (n : Nat) (p : PpuState) : PpuState :=
  match n with
  | 0 => p
  | n + 1 => ppuTicks n (ppuTick p)

/-- The driver: after a Step that returned `n` cycles "the host advances the PPU by n cycles" (60_exceptions.md R407). -/
def State.advancePpu (s : State) (n : Nat) : State := s.setPpu (ppuTicks n s.ppu)

/-- One step of the machine: a `Step()` and, if it returned a cycle count, the driver's PPU advance by that count
(60_exceptions.md R400, R407; log entry 4). -/
def stepWith (exec : Instr → State → Result) (s : State) : Result :=
  match coreStepWith exec s with
  | .next t => .next (t.advancePpu (t.cycles - s.cycles))
  | .fault e => .fault e
  | .refused e => .refused e

/-! ## Placing an instruction where the next step fetches it -/

/-- A byte put at `addr` is read back from there: plain storage, and not the unusable region, an I/O register, IE or the
PPU's window. -/
def placeable (addr : Word) : Bool :=
  match classify addr with
  | .romBank0 | .romBank1 | .externalRam | .workRam0 | .workRam1 | .echoRam | .oam | .highRam => true
  | .vram | .unusable | .ioRegisters | .interruptEnable => false

/-- Put a byte where a read of `addr` finds it: in the boot ROM buffer under the overlay (20_memory.md R65), elsewhere as a
store does. -/
def State.placeByte (s : State) (addr : Word) (v : Byte) : State :=
  if addr.toNat < 0x0100 ∧ s.bootOff = false then s.setBoot (s.boot.write addr.toNat v) else s.memWrite addr v

/-- `s` with three bytes where its next step fetches. From `State.reset` only those bytes change. Elsewhere: a PC whose
bytes cannot be placed moves to work RAM at 0xC000, the machine is neither faulted nor halted, and IME is cleared if the
step would service an interrupt first (log entry 10). -/
def State.placeInstr (s : State) (b0 b1 b2 : Byte) : State :=
  let s0 :=
    if placeable s.pc && placeable (s.pc + 1) && placeable (s.pc + 2) then s else s.setPc 0xC000
  let s1 := ((s0.placeByte s0.pc b0).placeByte (s0.pc + 1) b1).placeByte (s0.pc + 2) b2
  let s2 := (s1.setFaulted false).setHalted false
  if s2.beginStep.interruptCheck.isSome then s2.setIme false else s2

end Sys2Proof.Machine
end

