-- ==== Sys2Proof/Machine/Operands.lean ====
section
/-! DEFINITION. The operand forms of the instruction set. -/

namespace Sys2Proof.Machine

/-- `get(m)` (44_rotate_shift.md R294): a register, or the byte at HL. -/
def State.getOperand (s : State) (m : Operand) : Byte :=
  match m with
  | .reg r => s.reg r
  | .indHl => s.memRead s.hl

/-- `set(m, v)` (44_rotate_shift.md R294). -/
def State.setOperand (s : State) (m : Operand) (v : Byte) : State :=
  match m with
  | .reg r => s.setReg r v
  | .indHl => s.memWrite s.hl v

/-- `src8(s)` (42_alu8.md R250): a register, the byte at HL, or an immediate. -/
def State.src8 (s : State) (src : Source) : Byte :=
  match src with
  | .reg r => s.reg r
  | .indHl => s.memRead s.hl
  | .imm n => n

/-- The register a table `rp` code names (30_encoding.md R125). -/
def pairReg (p : Pair) : Reg16 :=
  match p with
  | .bc => .bc
  | .de => .de
  | .hl => .hl
  | .sp => .sp

/-- The register a table `rp2` code names (30_encoding.md R125). -/
def stackPairReg (p : StackPair) : Reg16 :=
  match p with
  | .bc => .bc
  | .de => .de
  | .hl => .hl
  | .af => .af

end Sys2Proof.Machine
end

