-- ==== Sys2Proof/Machine/Alu16.lean ====
section
/-! DEFINITION. 16-bit arithmetic (43_alu16.md). -/

namespace Sys2Proof.Machine

/-- `HL <- trunc16(HL + R16[rr])` with its flags (43_alu16.md R280). -/
def addHlTo (p : Pair) (s : State) : Result :=
  let res := addHlResult s.hl (s.pair (pairReg p)) s.flags
  .next ((s.setPair .hl res.1).setFlags res.2)

/-- `SP <- trunc16(SP + sext_16(e))` with its flags (43_alu16.md R281). -/
def addSpDisplacement (e : Byte) (s : State) : Result :=
  let res := spPlusResult s.sp e
  .next ((s.setSp res.1).setFlags res.2)

/-- `R16[rr] <- trunc16(R16[rr] + 1)`, no flag (43_alu16.md R282). -/
def incPair16 (p : Pair) (s : State) : Result :=
  .next (s.setPair (pairReg p) (s.pair (pairReg p) + 1))

/-- `R16[rr] <- trunc16(R16[rr] - 1)`, no flag (43_alu16.md R283). -/
def decPair16 (p : Pair) (s : State) : Result :=
  .next (s.setPair (pairReg p) (s.pair (pairReg p) - 1))

/-- `ADD HL,BC` (43_alu16.md R280). -/
def execAddHlBc (s : State) : Result := addHlTo .bc s

/-- `ADD HL,DE` (43_alu16.md R280). -/
def execAddHlDe (s : State) : Result := addHlTo .de s

/-- `ADD HL,HL` (43_alu16.md R280). -/
def execAddHlHl (s : State) : Result := addHlTo .hl s

/-- `ADD HL,SP` (43_alu16.md R280). -/
def execAddHlSp (s : State) : Result := addHlTo .sp s

/-- `ADD SP,r8` (43_alu16.md R281). -/
def execAddSpR8 (e : Byte) (s : State) : Result := addSpDisplacement e s

/-- `INC BC` (43_alu16.md R282). -/
def execIncBc (s : State) : Result := incPair16 .bc s

/-- `INC DE` (43_alu16.md R282). -/
def execIncDe (s : State) : Result := incPair16 .de s

/-- `INC HL` (43_alu16.md R282). -/
def execIncHl (s : State) : Result := incPair16 .hl s

/-- `INC SP` (43_alu16.md R282). -/
def execIncSp (s : State) : Result := incPair16 .sp s

/-- `DEC BC` (43_alu16.md R283). -/
def execDecBc (s : State) : Result := decPair16 .bc s

/-- `DEC DE` (43_alu16.md R283). -/
def execDecDe (s : State) : Result := decPair16 .de s

/-- `DEC HL` (43_alu16.md R283). -/
def execDecHl (s : State) : Result := decPair16 .hl s

/-- `DEC SP` (43_alu16.md R283). -/
def execDecSp (s : State) : Result := decPair16 .sp s

end Sys2Proof.Machine
end

