-- ==== Sys2Proof/Machine/Alu8.lean ====
section
/-! DEFINITION. 8-bit arithmetic and logic (42_alu8.md). -/

namespace Sys2Proof.Machine

/-- A two-operand operation on A (42_alu8.md R252 to R259). -/
def aluOperation (op : AluOp) (src : Source) (s : State) : Result :=
  let res := aluResult op (s.reg .a) (s.src8 src) s.flags.c
  .next ((s.setReg .a res.1).setFlags res.2)

/-- INC of a register or of the byte at HL (42_alu8.md R260, R261). -/
def incOperand (m : Operand) (s : State) : Result :=
  let v := s.getOperand m
  .next ((s.setOperand m (increment v).1).setFlags (incFlags s.flags v))

/-- DEC of a register or of the byte at HL (42_alu8.md R262, R263). -/
def decOperand (m : Operand) (s : State) : Result :=
  let v := s.getOperand m
  .next ((s.setOperand m (decrement v).1).setFlags (decFlags s.flags v))

/-- `ADD A,B` (42_alu8.md R252). -/
def execAddAB (s : State) : Result := aluOperation .add (.reg .b) s

/-- `ADD A,C` (42_alu8.md R252). -/
def execAddAC (s : State) : Result := aluOperation .add (.reg .c) s

/-- `ADD A,D` (42_alu8.md R252). -/
def execAddAD (s : State) : Result := aluOperation .add (.reg .d) s

/-- `ADD A,E` (42_alu8.md R252). -/
def execAddAE (s : State) : Result := aluOperation .add (.reg .e) s

/-- `ADD A,H` (42_alu8.md R252). -/
def execAddAH (s : State) : Result := aluOperation .add (.reg .h) s

/-- `ADD A,L` (42_alu8.md R252). -/
def execAddAL (s : State) : Result := aluOperation .add (.reg .l) s

/-- `ADD A,(HL)` (42_alu8.md R252). -/
def execAddAIndHl (s : State) : Result := aluOperation .add .indHl s

/-- `ADD A,A` (42_alu8.md R252). -/
def execAddAA (s : State) : Result := aluOperation .add (.reg .a) s

/-- `ADD A,d8` (42_alu8.md R252). -/
def execAddAD8 (n : Byte) (s : State) : Result := aluOperation .add (.imm n) s

/-- `ADC A,B` (42_alu8.md R253). -/
def execAdcAB (s : State) : Result := aluOperation .adc (.reg .b) s

/-- `ADC A,C` (42_alu8.md R253). -/
def execAdcAC (s : State) : Result := aluOperation .adc (.reg .c) s

/-- `ADC A,D` (42_alu8.md R253). -/
def execAdcAD (s : State) : Result := aluOperation .adc (.reg .d) s

/-- `ADC A,E` (42_alu8.md R253). -/
def execAdcAE (s : State) : Result := aluOperation .adc (.reg .e) s

/-- `ADC A,H` (42_alu8.md R253). -/
def execAdcAH (s : State) : Result := aluOperation .adc (.reg .h) s

/-- `ADC A,L` (42_alu8.md R253). -/
def execAdcAL (s : State) : Result := aluOperation .adc (.reg .l) s

/-- `ADC A,(HL)` (42_alu8.md R253). -/
def execAdcAIndHl (s : State) : Result := aluOperation .adc .indHl s

/-- `ADC A,A` (42_alu8.md R253). -/
def execAdcAA (s : State) : Result := aluOperation .adc (.reg .a) s

/-- `ADC A,d8` (42_alu8.md R253). -/
def execAdcAD8 (n : Byte) (s : State) : Result := aluOperation .adc (.imm n) s

/-- `SUB B` (42_alu8.md R254). -/
def execSubB (s : State) : Result := aluOperation .sub (.reg .b) s

/-- `SUB C` (42_alu8.md R254). -/
def execSubC (s : State) : Result := aluOperation .sub (.reg .c) s

/-- `SUB D` (42_alu8.md R254). -/
def execSubD (s : State) : Result := aluOperation .sub (.reg .d) s

/-- `SUB E` (42_alu8.md R254). -/
def execSubE (s : State) : Result := aluOperation .sub (.reg .e) s

/-- `SUB H` (42_alu8.md R254). -/
def execSubH (s : State) : Result := aluOperation .sub (.reg .h) s

/-- `SUB L` (42_alu8.md R254). -/
def execSubL (s : State) : Result := aluOperation .sub (.reg .l) s

/-- `SUB (HL)` (42_alu8.md R254). -/
def execSubIndHl (s : State) : Result := aluOperation .sub .indHl s

/-- `SUB A` (42_alu8.md R254). -/
def execSubA (s : State) : Result := aluOperation .sub (.reg .a) s

/-- `SUB d8` (42_alu8.md R254). -/
def execSubD8 (n : Byte) (s : State) : Result := aluOperation .sub (.imm n) s

/-- `SBC A,B` (42_alu8.md R255). -/
def execSbcAB (s : State) : Result := aluOperation .sbc (.reg .b) s

/-- `SBC A,C` (42_alu8.md R255). -/
def execSbcAC (s : State) : Result := aluOperation .sbc (.reg .c) s

/-- `SBC A,D` (42_alu8.md R255). -/
def execSbcAD (s : State) : Result := aluOperation .sbc (.reg .d) s

/-- `SBC A,E` (42_alu8.md R255). -/
def execSbcAE (s : State) : Result := aluOperation .sbc (.reg .e) s

/-- `SBC A,H` (42_alu8.md R255). -/
def execSbcAH (s : State) : Result := aluOperation .sbc (.reg .h) s

/-- `SBC A,L` (42_alu8.md R255). -/
def execSbcAL (s : State) : Result := aluOperation .sbc (.reg .l) s

/-- `SBC A,(HL)` (42_alu8.md R255). -/
def execSbcAIndHl (s : State) : Result := aluOperation .sbc .indHl s

/-- `SBC A,A` (42_alu8.md R255). -/
def execSbcAA (s : State) : Result := aluOperation .sbc (.reg .a) s

/-- `SBC A,d8` (42_alu8.md R255). -/
def execSbcAD8 (n : Byte) (s : State) : Result := aluOperation .sbc (.imm n) s

/-- `AND B` (42_alu8.md R256). -/
def execAndB (s : State) : Result := aluOperation .and (.reg .b) s

/-- `AND C` (42_alu8.md R256). -/
def execAndC (s : State) : Result := aluOperation .and (.reg .c) s

/-- `AND D` (42_alu8.md R256). -/
def execAndD (s : State) : Result := aluOperation .and (.reg .d) s

/-- `AND E` (42_alu8.md R256). -/
def execAndE (s : State) : Result := aluOperation .and (.reg .e) s

/-- `AND H` (42_alu8.md R256). -/
def execAndH (s : State) : Result := aluOperation .and (.reg .h) s

/-- `AND L` (42_alu8.md R256). -/
def execAndL (s : State) : Result := aluOperation .and (.reg .l) s

/-- `AND (HL)` (42_alu8.md R256). -/
def execAndIndHl (s : State) : Result := aluOperation .and .indHl s

/-- `AND A` (42_alu8.md R256). -/
def execAndA (s : State) : Result := aluOperation .and (.reg .a) s

/-- `AND d8` (42_alu8.md R256). -/
def execAndD8 (n : Byte) (s : State) : Result := aluOperation .and (.imm n) s

/-- `XOR B` (42_alu8.md R257). -/
def execXorB (s : State) : Result := aluOperation .xor (.reg .b) s

/-- `XOR C` (42_alu8.md R257). -/
def execXorC (s : State) : Result := aluOperation .xor (.reg .c) s

/-- `XOR D` (42_alu8.md R257). -/
def execXorD (s : State) : Result := aluOperation .xor (.reg .d) s

/-- `XOR E` (42_alu8.md R257). -/
def execXorE (s : State) : Result := aluOperation .xor (.reg .e) s

/-- `XOR H` (42_alu8.md R257). -/
def execXorH (s : State) : Result := aluOperation .xor (.reg .h) s

/-- `XOR L` (42_alu8.md R257). -/
def execXorL (s : State) : Result := aluOperation .xor (.reg .l) s

/-- `XOR (HL)` (42_alu8.md R257). -/
def execXorIndHl (s : State) : Result := aluOperation .xor .indHl s

/-- `XOR A` (42_alu8.md R257). -/
def execXorA (s : State) : Result := aluOperation .xor (.reg .a) s

/-- `XOR d8` (42_alu8.md R257). -/
def execXorD8 (n : Byte) (s : State) : Result := aluOperation .xor (.imm n) s

/-- `OR B` (42_alu8.md R258). -/
def execOrB (s : State) : Result := aluOperation .or (.reg .b) s

/-- `OR C` (42_alu8.md R258). -/
def execOrC (s : State) : Result := aluOperation .or (.reg .c) s

/-- `OR D` (42_alu8.md R258). -/
def execOrD (s : State) : Result := aluOperation .or (.reg .d) s

/-- `OR E` (42_alu8.md R258). -/
def execOrE (s : State) : Result := aluOperation .or (.reg .e) s

/-- `OR H` (42_alu8.md R258). -/
def execOrH (s : State) : Result := aluOperation .or (.reg .h) s

/-- `OR L` (42_alu8.md R258). -/
def execOrL (s : State) : Result := aluOperation .or (.reg .l) s

/-- `OR (HL)` (42_alu8.md R258). -/
def execOrIndHl (s : State) : Result := aluOperation .or .indHl s

/-- `OR A` (42_alu8.md R258). -/
def execOrA (s : State) : Result := aluOperation .or (.reg .a) s

/-- `OR d8` (42_alu8.md R258). -/
def execOrD8 (n : Byte) (s : State) : Result := aluOperation .or (.imm n) s

/-- `CP B` (42_alu8.md R259). -/
def execCpB (s : State) : Result := aluOperation .cp (.reg .b) s

/-- `CP C` (42_alu8.md R259). -/
def execCpC (s : State) : Result := aluOperation .cp (.reg .c) s

/-- `CP D` (42_alu8.md R259). -/
def execCpD (s : State) : Result := aluOperation .cp (.reg .d) s

/-- `CP E` (42_alu8.md R259). -/
def execCpE (s : State) : Result := aluOperation .cp (.reg .e) s

/-- `CP H` (42_alu8.md R259). -/
def execCpH (s : State) : Result := aluOperation .cp (.reg .h) s

/-- `CP L` (42_alu8.md R259). -/
def execCpL (s : State) : Result := aluOperation .cp (.reg .l) s

/-- `CP (HL)` (42_alu8.md R259). -/
def execCpIndHl (s : State) : Result := aluOperation .cp .indHl s

/-- `CP A` (42_alu8.md R259). -/
def execCpA (s : State) : Result := aluOperation .cp (.reg .a) s

/-- `CP d8` (42_alu8.md R259). -/
def execCpD8 (n : Byte) (s : State) : Result := aluOperation .cp (.imm n) s

/-- `INC B` (42_alu8.md R260). -/
def execIncB (s : State) : Result := incOperand (.reg .b) s

/-- `INC C` (42_alu8.md R260). -/
def execIncC (s : State) : Result := incOperand (.reg .c) s

/-- `INC D` (42_alu8.md R260). -/
def execIncD (s : State) : Result := incOperand (.reg .d) s

/-- `INC E` (42_alu8.md R260). -/
def execIncE (s : State) : Result := incOperand (.reg .e) s

/-- `INC H` (42_alu8.md R260). -/
def execIncH (s : State) : Result := incOperand (.reg .h) s

/-- `INC L` (42_alu8.md R260). -/
def execIncL (s : State) : Result := incOperand (.reg .l) s

/-- `INC A` (42_alu8.md R260). -/
def execIncA (s : State) : Result := incOperand (.reg .a) s

/-- `INC (HL)` (42_alu8.md R261). -/
def execIncIndHl (s : State) : Result := incOperand .indHl s

/-- `DEC B` (42_alu8.md R262). -/
def execDecB (s : State) : Result := decOperand (.reg .b) s

/-- `DEC C` (42_alu8.md R262). -/
def execDecC (s : State) : Result := decOperand (.reg .c) s

/-- `DEC D` (42_alu8.md R262). -/
def execDecD (s : State) : Result := decOperand (.reg .d) s

/-- `DEC E` (42_alu8.md R262). -/
def execDecE (s : State) : Result := decOperand (.reg .e) s

/-- `DEC H` (42_alu8.md R262). -/
def execDecH (s : State) : Result := decOperand (.reg .h) s

/-- `DEC L` (42_alu8.md R262). -/
def execDecL (s : State) : Result := decOperand (.reg .l) s

/-- `DEC A` (42_alu8.md R262). -/
def execDecA (s : State) : Result := decOperand (.reg .a) s

/-- `DEC (HL)` (42_alu8.md R263). -/
def execDecIndHl (s : State) : Result := decOperand .indHl s

/-- `DAA` (42_alu8.md R264). -/
def execDaa (s : State) : Result :=
  let res := daaResult (s.reg .a) s.flags
  .next ((s.setReg .a res.1).setFlags res.2)

/-- `CPL` (42_alu8.md R265). -/
def execCpl (s : State) : Result := .next ((s.setReg .a (~~~(s.reg .a))).setFlags (cplFlags s.flags))

/-- `SCF` (42_alu8.md R266). -/
def execScf (s : State) : Result := .next (s.setFlags (scfFlags s.flags))

/-- `CCF` (42_alu8.md R267). -/
def execCcf (s : State) : Result := .next (s.setFlags (ccfFlags s.flags))

end Sys2Proof.Machine
end

