-- ==== Sys2Proof/Machine/Control.lean ====
section
/-! DEFINITION. Control transfer (46_control.md). `s.pc` is the post-fetch PC (10_state.md R28); no instruction here writes a flag. -/

namespace Sys2Proof.Machine

/-- `pc <- target`. -/
def jumpTo (target : Word) (s : State) : Result :=
  .next (s.setPc target)

/-- `if cond(cc): pc <- target; cycles <- cycles + 4` (46_control.md R322, R325). -/
def jumpIf (cc : Cond) (target : Word) (s : State) : Result :=
  if condHolds cc s.flags then .next ((s.setPc target).charge 4) else .next s

/-- `Push16(PC); pc <- target` (46_control.md R326, R331). -/
def callTo (target : Word) (s : State) : Result :=
  .next ((s.push16 s.pc).setPc target)

/-- `if cond(cc): Push16(PC); pc <- target; cycles <- cycles + 12` (46_control.md R327). -/
def callIf (cc : Cond) (target : Word) (s : State) : Result :=
  if condHolds cc s.flags then .next (((s.push16 s.pc).setPc target).charge 12) else .next s

/-- `if cond(cc): pc <- Pop16(); cycles <- cycles + 12` (46_control.md R329). -/
def returnIf (cc : Cond) (s : State) : Result :=
  if condHolds cc s.flags then .next (s.popPc.charge 12) else .next s

/-- `JP a16` (46_control.md R321). -/
def execJpA16 (nn : Word) (s : State) : Result := jumpTo nn s

/-- `JP NZ,a16` (46_control.md R322). -/
def execJpNzA16 (nn : Word) (s : State) : Result := jumpIf .nz nn s

/-- `JP Z,a16` (46_control.md R322). -/
def execJpZA16 (nn : Word) (s : State) : Result := jumpIf .z nn s

/-- `JP NC,a16` (46_control.md R322). -/
def execJpNcA16 (nn : Word) (s : State) : Result := jumpIf .nc nn s

/-- `JP C,a16` (46_control.md R322). -/
def execJpCA16 (nn : Word) (s : State) : Result := jumpIf .c nn s

/-- `JP (HL)` (46_control.md R323). -/
def execJpIndHl (s : State) : Result := jumpTo s.hl s

/-- `JR r8` (46_control.md R324). -/
def execJrR8 (e : Byte) (s : State) : Result := jumpTo (s.pc + sext16 e) s

/-- `JR NZ,r8` (46_control.md R325). -/
def execJrNzR8 (e : Byte) (s : State) : Result := jumpIf .nz (s.pc + sext16 e) s

/-- `JR Z,r8` (46_control.md R325). -/
def execJrZR8 (e : Byte) (s : State) : Result := jumpIf .z (s.pc + sext16 e) s

/-- `JR NC,r8` (46_control.md R325). -/
def execJrNcR8 (e : Byte) (s : State) : Result := jumpIf .nc (s.pc + sext16 e) s

/-- `JR C,r8` (46_control.md R325). -/
def execJrCR8 (e : Byte) (s : State) : Result := jumpIf .c (s.pc + sext16 e) s

/-- `CALL a16` (46_control.md R326). -/
def execCallA16 (nn : Word) (s : State) : Result := callTo nn s

/-- `CALL NZ,a16` (46_control.md R327). -/
def execCallNzA16 (nn : Word) (s : State) : Result := callIf .nz nn s

/-- `CALL Z,a16` (46_control.md R327). -/
def execCallZA16 (nn : Word) (s : State) : Result := callIf .z nn s

/-- `CALL NC,a16` (46_control.md R327). -/
def execCallNcA16 (nn : Word) (s : State) : Result := callIf .nc nn s

/-- `CALL C,a16` (46_control.md R327). -/
def execCallCA16 (nn : Word) (s : State) : Result := callIf .c nn s

/-- `RET` (46_control.md R328). -/
def execRet (s : State) : Result := .next s.popPc

/-- `RET NZ` (46_control.md R329). -/
def execRetNz (s : State) : Result := returnIf .nz s

/-- `RET Z` (46_control.md R329). -/
def execRetZ (s : State) : Result := returnIf .z s

/-- `RET NC` (46_control.md R329). -/
def execRetNc (s : State) : Result := returnIf .nc s

/-- `RET C` (46_control.md R329). -/
def execRetC (s : State) : Result := returnIf .c s

/-- `RETI` (46_control.md R330). -/
def execReti (s : State) : Result := .next s.returnFromInterrupt

/-- `RST 00H` (46_control.md R331). -/
def execRst00 (s : State) : Result := callTo 0x0000 s

/-- `RST 08H` (46_control.md R331). -/
def execRst08 (s : State) : Result := callTo 0x0008 s

/-- `RST 10H` (46_control.md R331). -/
def execRst10 (s : State) : Result := callTo 0x0010 s

/-- `RST 18H` (46_control.md R331). -/
def execRst18 (s : State) : Result := callTo 0x0018 s

/-- `RST 20H` (46_control.md R331). -/
def execRst20 (s : State) : Result := callTo 0x0020 s

/-- `RST 28H` (46_control.md R331). -/
def execRst28 (s : State) : Result := callTo 0x0028 s

/-- `RST 30H` (46_control.md R331). -/
def execRst30 (s : State) : Result := callTo 0x0030 s

/-- `RST 38H` (46_control.md R331). -/
def execRst38 (s : State) : Result := callTo 0x0038 s

end Sys2Proof.Machine
end

