-- ==== Sys2Proof/Machine/Load16.lean ====
section
/-! DEFINITION. 16-bit loads and stack operations (41_load16_stack.md). -/

namespace Sys2Proof.Machine

/-- `R16[rr] <- d16` (41_load16_stack.md R231). -/
def loadPair (p : Pair) (nn : Word) (s : State) : Result :=
  .next (s.setPair (pairReg p) nn)

/-- `MemWrite(a16, 2, SP)` (41_load16_stack.md R232). -/
def storeSp (addr : Word) (s : State) : Result :=
  .next (s.memWrite16 addr s.sp)

/-- `HL <- trunc16(SP + sext_16(e))` with its flags (41_load16_stack.md R234). -/
def loadHlSpPlus (e : Byte) (s : State) : Result :=
  let res := spPlusResult s.sp e
  .next ((s.setPair .hl res.1).setFlags res.2)

/-- `Push16(R16[rr])`, AF included (41_load16_stack.md R235, R236). -/
def pushPair (p : StackPair) (s : State) : Result :=
  .next (s.push16 (s.pair (stackPairReg p)))

/-- `R16[rr] <- Pop16()`, AF included (41_load16_stack.md R237, R238). -/
def popPair (p : StackPair) (s : State) : Result :=
  let (v, t) := s.pop16
  .next (t.setPair (stackPairReg p) v)

/-- `LD BC,d16` (41_load16_stack.md R231). -/
def execLdBcD16 (nn : Word) (s : State) : Result := loadPair .bc nn s

/-- `LD DE,d16` (41_load16_stack.md R231). -/
def execLdDeD16 (nn : Word) (s : State) : Result := loadPair .de nn s

/-- `LD HL,d16` (41_load16_stack.md R231). -/
def execLdHlD16 (nn : Word) (s : State) : Result := loadPair .hl nn s

/-- `LD SP,d16` (41_load16_stack.md R231). -/
def execLdSpD16 (nn : Word) (s : State) : Result := loadPair .sp nn s

/-- `LD (a16),SP` (41_load16_stack.md R232). -/
def execLdIndA16Sp (nn : Word) (s : State) : Result := storeSp nn s

/-- `LD SP,HL` (41_load16_stack.md R233). -/
def execLdSpHl (s : State) : Result := .next (s.setSp s.hl)

/-- `LD HL,SP+r8` (41_load16_stack.md R234). -/
def execLdHlSpR8 (e : Byte) (s : State) : Result := loadHlSpPlus e s

/-- `PUSH BC` (41_load16_stack.md R235). -/
def execPushBc (s : State) : Result := pushPair .bc s

/-- `PUSH DE` (41_load16_stack.md R235). -/
def execPushDe (s : State) : Result := pushPair .de s

/-- `PUSH HL` (41_load16_stack.md R235). -/
def execPushHl (s : State) : Result := pushPair .hl s

/-- `PUSH AF` (41_load16_stack.md R236). -/
def execPushAf (s : State) : Result := pushPair .af s

/-- `POP BC` (41_load16_stack.md R237). -/
def execPopBc (s : State) : Result := popPair .bc s

/-- `POP DE` (41_load16_stack.md R237). -/
def execPopDe (s : State) : Result := popPair .de s

/-- `POP HL` (41_load16_stack.md R237). -/
def execPopHl (s : State) : Result := popPair .hl s

/-- `POP AF` (41_load16_stack.md R238). -/
def execPopAf (s : State) : Result := popPair .af s

end Sys2Proof.Machine
end

