-- ==== Sys2Proof/Machine/Load8.lean ====
section
/-! DEFINITION. 8-bit loads (40_load8.md). No instruction here writes a flag. -/

namespace Sys2Proof.Machine

/-- `LD` between an 8-bit operand and a source: the source is read, at the old HL, before the destination is written
(40_load8.md R200 to R204). -/
def loadOperand (d : Operand) (src : Source) (s : State) : Result :=
  .next (s.setOperand d (s.src8 src))

/-- `A <- MemRead(addr, 1)`. -/
def loadAFrom (addr : Word) (s : State) : Result :=
  .next (s.setReg .a (s.memRead addr))

/-- `MemWrite(addr, 1, A)`. -/
def storeATo (addr : Word) (s : State) : Result :=
  .next (s.memWrite addr (s.reg .a))

/-- `MemWrite(HL, 1, A)`, then `HL <- trunc16(HL + step)` (40_load8.md R215, R216). -/
def storeAStep (step : Word) (s : State) : Result :=
  let t := s.memWrite s.hl (s.reg .a)
  .next (t.setPair .hl (t.hl + step))

/-- `A <- MemRead(HL, 1)`, then `HL <- trunc16(HL + step)` (40_load8.md R217, R218). -/
def loadAStep (step : Word) (s : State) : Result :=
  let t := s.setReg .a (s.memRead s.hl)
  .next (t.setPair .hl (t.hl + step))

/-- `LD B,B` (40_load8.md R200). -/
def execLdBB (s : State) : Result := loadOperand (.reg .b) (.reg .b) s

/-- `LD B,C` (40_load8.md R200). -/
def execLdBC (s : State) : Result := loadOperand (.reg .b) (.reg .c) s

/-- `LD B,D` (40_load8.md R200). -/
def execLdBD (s : State) : Result := loadOperand (.reg .b) (.reg .d) s

/-- `LD B,E` (40_load8.md R200). -/
def execLdBE (s : State) : Result := loadOperand (.reg .b) (.reg .e) s

/-- `LD B,H` (40_load8.md R200). -/
def execLdBH (s : State) : Result := loadOperand (.reg .b) (.reg .h) s

/-- `LD B,L` (40_load8.md R200). -/
def execLdBL (s : State) : Result := loadOperand (.reg .b) (.reg .l) s

/-- `LD B,A` (40_load8.md R200). -/
def execLdBA (s : State) : Result := loadOperand (.reg .b) (.reg .a) s

/-- `LD C,B` (40_load8.md R200). -/
def execLdCB (s : State) : Result := loadOperand (.reg .c) (.reg .b) s

/-- `LD C,C` (40_load8.md R200). -/
def execLdCC (s : State) : Result := loadOperand (.reg .c) (.reg .c) s

/-- `LD C,D` (40_load8.md R200). -/
def execLdCD (s : State) : Result := loadOperand (.reg .c) (.reg .d) s

/-- `LD C,E` (40_load8.md R200). -/
def execLdCE (s : State) : Result := loadOperand (.reg .c) (.reg .e) s

/-- `LD C,H` (40_load8.md R200). -/
def execLdCH (s : State) : Result := loadOperand (.reg .c) (.reg .h) s

/-- `LD C,L` (40_load8.md R200). -/
def execLdCL (s : State) : Result := loadOperand (.reg .c) (.reg .l) s

/-- `LD C,A` (40_load8.md R200). -/
def execLdCA (s : State) : Result := loadOperand (.reg .c) (.reg .a) s

/-- `LD D,B` (40_load8.md R200). -/
def execLdDB (s : State) : Result := loadOperand (.reg .d) (.reg .b) s

/-- `LD D,C` (40_load8.md R200). -/
def execLdDC (s : State) : Result := loadOperand (.reg .d) (.reg .c) s

/-- `LD D,D` (40_load8.md R200). -/
def execLdDD (s : State) : Result := loadOperand (.reg .d) (.reg .d) s

/-- `LD D,E` (40_load8.md R200). -/
def execLdDE (s : State) : Result := loadOperand (.reg .d) (.reg .e) s

/-- `LD D,H` (40_load8.md R200). -/
def execLdDH (s : State) : Result := loadOperand (.reg .d) (.reg .h) s

/-- `LD D,L` (40_load8.md R200). -/
def execLdDL (s : State) : Result := loadOperand (.reg .d) (.reg .l) s

/-- `LD D,A` (40_load8.md R200). -/
def execLdDA (s : State) : Result := loadOperand (.reg .d) (.reg .a) s

/-- `LD E,B` (40_load8.md R200). -/
def execLdEB (s : State) : Result := loadOperand (.reg .e) (.reg .b) s

/-- `LD E,C` (40_load8.md R200). -/
def execLdEC (s : State) : Result := loadOperand (.reg .e) (.reg .c) s

/-- `LD E,D` (40_load8.md R200). -/
def execLdED (s : State) : Result := loadOperand (.reg .e) (.reg .d) s

/-- `LD E,E` (40_load8.md R200). -/
def execLdEE (s : State) : Result := loadOperand (.reg .e) (.reg .e) s

/-- `LD E,H` (40_load8.md R200). -/
def execLdEH (s : State) : Result := loadOperand (.reg .e) (.reg .h) s

/-- `LD E,L` (40_load8.md R200). -/
def execLdEL (s : State) : Result := loadOperand (.reg .e) (.reg .l) s

/-- `LD E,A` (40_load8.md R200). -/
def execLdEA (s : State) : Result := loadOperand (.reg .e) (.reg .a) s

/-- `LD H,B` (40_load8.md R200). -/
def execLdHB (s : State) : Result := loadOperand (.reg .h) (.reg .b) s

/-- `LD H,C` (40_load8.md R200). -/
def execLdHC (s : State) : Result := loadOperand (.reg .h) (.reg .c) s

/-- `LD H,D` (40_load8.md R200). -/
def execLdHD (s : State) : Result := loadOperand (.reg .h) (.reg .d) s

/-- `LD H,E` (40_load8.md R200). -/
def execLdHE (s : State) : Result := loadOperand (.reg .h) (.reg .e) s

/-- `LD H,H` (40_load8.md R200). -/
def execLdHH (s : State) : Result := loadOperand (.reg .h) (.reg .h) s

/-- `LD H,L` (40_load8.md R200). -/
def execLdHL (s : State) : Result := loadOperand (.reg .h) (.reg .l) s

/-- `LD H,A` (40_load8.md R200). -/
def execLdHA (s : State) : Result := loadOperand (.reg .h) (.reg .a) s

/-- `LD L,B` (40_load8.md R200). -/
def execLdLB (s : State) : Result := loadOperand (.reg .l) (.reg .b) s

/-- `LD L,C` (40_load8.md R200). -/
def execLdLC (s : State) : Result := loadOperand (.reg .l) (.reg .c) s

/-- `LD L,D` (40_load8.md R200). -/
def execLdLD (s : State) : Result := loadOperand (.reg .l) (.reg .d) s

/-- `LD L,E` (40_load8.md R200). -/
def execLdLE (s : State) : Result := loadOperand (.reg .l) (.reg .e) s

/-- `LD L,H` (40_load8.md R200). -/
def execLdLH (s : State) : Result := loadOperand (.reg .l) (.reg .h) s

/-- `LD L,L` (40_load8.md R200). -/
def execLdLL (s : State) : Result := loadOperand (.reg .l) (.reg .l) s

/-- `LD L,A` (40_load8.md R200). -/
def execLdLA (s : State) : Result := loadOperand (.reg .l) (.reg .a) s

/-- `LD A,B` (40_load8.md R200). -/
def execLdAB (s : State) : Result := loadOperand (.reg .a) (.reg .b) s

/-- `LD A,C` (40_load8.md R200). -/
def execLdAC (s : State) : Result := loadOperand (.reg .a) (.reg .c) s

/-- `LD A,D` (40_load8.md R200). -/
def execLdAD (s : State) : Result := loadOperand (.reg .a) (.reg .d) s

/-- `LD A,E` (40_load8.md R200). -/
def execLdAE (s : State) : Result := loadOperand (.reg .a) (.reg .e) s

/-- `LD A,H` (40_load8.md R200). -/
def execLdAH (s : State) : Result := loadOperand (.reg .a) (.reg .h) s

/-- `LD A,L` (40_load8.md R200). -/
def execLdAL (s : State) : Result := loadOperand (.reg .a) (.reg .l) s

/-- `LD A,A` (40_load8.md R200). -/
def execLdAA (s : State) : Result := loadOperand (.reg .a) (.reg .a) s

/-- `LD B,d8` (40_load8.md R201). -/
def execLdBD8 (n : Byte) (s : State) : Result := loadOperand (.reg .b) (.imm n) s

/-- `LD C,d8` (40_load8.md R201). -/
def execLdCD8 (n : Byte) (s : State) : Result := loadOperand (.reg .c) (.imm n) s

/-- `LD D,d8` (40_load8.md R201). -/
def execLdDD8 (n : Byte) (s : State) : Result := loadOperand (.reg .d) (.imm n) s

/-- `LD E,d8` (40_load8.md R201). -/
def execLdED8 (n : Byte) (s : State) : Result := loadOperand (.reg .e) (.imm n) s

/-- `LD H,d8` (40_load8.md R201). -/
def execLdHD8 (n : Byte) (s : State) : Result := loadOperand (.reg .h) (.imm n) s

/-- `LD L,d8` (40_load8.md R201). -/
def execLdLD8 (n : Byte) (s : State) : Result := loadOperand (.reg .l) (.imm n) s

/-- `LD A,d8` (40_load8.md R201). -/
def execLdAD8 (n : Byte) (s : State) : Result := loadOperand (.reg .a) (.imm n) s

/-- `LD B,(HL)` (40_load8.md R202). -/
def execLdBIndHl (s : State) : Result := loadOperand (.reg .b) .indHl s

/-- `LD C,(HL)` (40_load8.md R202). -/
def execLdCIndHl (s : State) : Result := loadOperand (.reg .c) .indHl s

/-- `LD D,(HL)` (40_load8.md R202). -/
def execLdDIndHl (s : State) : Result := loadOperand (.reg .d) .indHl s

/-- `LD E,(HL)` (40_load8.md R202). -/
def execLdEIndHl (s : State) : Result := loadOperand (.reg .e) .indHl s

/-- `LD H,(HL)` (40_load8.md R202). -/
def execLdHIndHl (s : State) : Result := loadOperand (.reg .h) .indHl s

/-- `LD L,(HL)` (40_load8.md R202). -/
def execLdLIndHl (s : State) : Result := loadOperand (.reg .l) .indHl s

/-- `LD A,(HL)` (40_load8.md R202). -/
def execLdAIndHl (s : State) : Result := loadOperand (.reg .a) .indHl s

/-- `LD (HL),B` (40_load8.md R203). -/
def execLdIndHlB (s : State) : Result := loadOperand .indHl (.reg .b) s

/-- `LD (HL),C` (40_load8.md R203). -/
def execLdIndHlC (s : State) : Result := loadOperand .indHl (.reg .c) s

/-- `LD (HL),D` (40_load8.md R203). -/
def execLdIndHlD (s : State) : Result := loadOperand .indHl (.reg .d) s

/-- `LD (HL),E` (40_load8.md R203). -/
def execLdIndHlE (s : State) : Result := loadOperand .indHl (.reg .e) s

/-- `LD (HL),H` (40_load8.md R203). -/
def execLdIndHlH (s : State) : Result := loadOperand .indHl (.reg .h) s

/-- `LD (HL),L` (40_load8.md R203). -/
def execLdIndHlL (s : State) : Result := loadOperand .indHl (.reg .l) s

/-- `LD (HL),A` (40_load8.md R203). -/
def execLdIndHlA (s : State) : Result := loadOperand .indHl (.reg .a) s

/-- `LD (HL),d8` (40_load8.md R204). -/
def execLdIndHlD8 (n : Byte) (s : State) : Result := loadOperand .indHl (.imm n) s

/-- `LD A,(BC)` (40_load8.md R205). -/
def execLdAIndBc (s : State) : Result := loadAFrom (s.pair .bc) s

/-- `LD A,(DE)` (40_load8.md R206). -/
def execLdAIndDe (s : State) : Result := loadAFrom (s.pair .de) s

/-- `LD (BC),A` (40_load8.md R207). -/
def execLdIndBcA (s : State) : Result := storeATo (s.pair .bc) s

/-- `LD (DE),A` (40_load8.md R208). -/
def execLdIndDeA (s : State) : Result := storeATo (s.pair .de) s

/-- `LD A,(a16)` (40_load8.md R209). -/
def execLdAIndA16 (nn : Word) (s : State) : Result := loadAFrom nn s

/-- `LD (a16),A` (40_load8.md R210). -/
def execLdIndA16A (nn : Word) (s : State) : Result := storeATo nn s

/-- `LDH A,(a8)` (40_load8.md R211). -/
def execLdhAIndA8 (n : Byte) (s : State) : Result := loadAFrom (highPage n) s

/-- `LDH (a8),A` (40_load8.md R212). -/
def execLdhIndA8A (n : Byte) (s : State) : Result := storeATo (highPage n) s

/-- `LD A,(C)` (40_load8.md R213). -/
def execLdAIndC (s : State) : Result := loadAFrom (highPage (s.reg .c)) s

/-- `LD (C),A` (40_load8.md R214). -/
def execLdIndCA (s : State) : Result := storeATo (highPage (s.reg .c)) s

/-- `LD (HL+),A` (40_load8.md R215). -/
def execLdIndHlIncA (s : State) : Result := storeAStep 1 s

/-- `LD (HL-),A` (40_load8.md R216). -/
def execLdIndHlDecA (s : State) : Result := storeAStep (-1) s

/-- `LD A,(HL+)` (40_load8.md R217). -/
def execLdAIndHlInc (s : State) : Result := loadAStep 1 s

/-- `LD A,(HL-)` (40_load8.md R218). -/
def execLdAIndHlDec (s : State) : Result := loadAStep (-1) s

end Sys2Proof.Machine
end

