-- ==== Sys2Proof/Machine/Bit.lean ====
section
/-! DEFINITION. Bit test, set and reset (45_bit.md). -/

namespace Sys2Proof.Machine

/-- `BIT b,m`: flags only (45_bit.md R310, R311). -/
def testBitOf (b : Fin 8) (m : Operand) (s : State) : Result :=
  .next (s.setFlags (bitFlags s.flags b (s.getOperand m)))

/-- `RES b,m`: the write happens even if the bit was clear (45_bit.md R312). -/
def resetBitOf (b : Fin 8) (m : Operand) (s : State) : Result :=
  .next (s.setOperand m (resBit b (s.getOperand m)))

/-- `SET b,m`: the write happens even if the bit was set (45_bit.md R313). -/
def setBitOf (b : Fin 8) (m : Operand) (s : State) : Result :=
  .next (s.setOperand m (setBit b (s.getOperand m)))

/-- `BIT 0,B` (45_bit.md R310). -/
def execBit0B (s : State) : Result := testBitOf 0 (.reg .b) s

/-- `BIT 0,C` (45_bit.md R310). -/
def execBit0C (s : State) : Result := testBitOf 0 (.reg .c) s

/-- `BIT 0,D` (45_bit.md R310). -/
def execBit0D (s : State) : Result := testBitOf 0 (.reg .d) s

/-- `BIT 0,E` (45_bit.md R310). -/
def execBit0E (s : State) : Result := testBitOf 0 (.reg .e) s

/-- `BIT 0,H` (45_bit.md R310). -/
def execBit0H (s : State) : Result := testBitOf 0 (.reg .h) s

/-- `BIT 0,L` (45_bit.md R310). -/
def execBit0L (s : State) : Result := testBitOf 0 (.reg .l) s

/-- `BIT 0,A` (45_bit.md R310). -/
def execBit0A (s : State) : Result := testBitOf 0 (.reg .a) s

/-- `BIT 1,B` (45_bit.md R310). -/
def execBit1B (s : State) : Result := testBitOf 1 (.reg .b) s

/-- `BIT 1,C` (45_bit.md R310). -/
def execBit1C (s : State) : Result := testBitOf 1 (.reg .c) s

/-- `BIT 1,D` (45_bit.md R310). -/
def execBit1D (s : State) : Result := testBitOf 1 (.reg .d) s

/-- `BIT 1,E` (45_bit.md R310). -/
def execBit1E (s : State) : Result := testBitOf 1 (.reg .e) s

/-- `BIT 1,H` (45_bit.md R310). -/
def execBit1H (s : State) : Result := testBitOf 1 (.reg .h) s

/-- `BIT 1,L` (45_bit.md R310). -/
def execBit1L (s : State) : Result := testBitOf 1 (.reg .l) s

/-- `BIT 1,A` (45_bit.md R310). -/
def execBit1A (s : State) : Result := testBitOf 1 (.reg .a) s

/-- `BIT 2,B` (45_bit.md R310). -/
def execBit2B (s : State) : Result := testBitOf 2 (.reg .b) s

/-- `BIT 2,C` (45_bit.md R310). -/
def execBit2C (s : State) : Result := testBitOf 2 (.reg .c) s

/-- `BIT 2,D` (45_bit.md R310). -/
def execBit2D (s : State) : Result := testBitOf 2 (.reg .d) s

/-- `BIT 2,E` (45_bit.md R310). -/
def execBit2E (s : State) : Result := testBitOf 2 (.reg .e) s

/-- `BIT 2,H` (45_bit.md R310). -/
def execBit2H (s : State) : Result := testBitOf 2 (.reg .h) s

/-- `BIT 2,L` (45_bit.md R310). -/
def execBit2L (s : State) : Result := testBitOf 2 (.reg .l) s

/-- `BIT 2,A` (45_bit.md R310). -/
def execBit2A (s : State) : Result := testBitOf 2 (.reg .a) s

/-- `BIT 3,B` (45_bit.md R310). -/
def execBit3B (s : State) : Result := testBitOf 3 (.reg .b) s

/-- `BIT 3,C` (45_bit.md R310). -/
def execBit3C (s : State) : Result := testBitOf 3 (.reg .c) s

/-- `BIT 3,D` (45_bit.md R310). -/
def execBit3D (s : State) : Result := testBitOf 3 (.reg .d) s

/-- `BIT 3,E` (45_bit.md R310). -/
def execBit3E (s : State) : Result := testBitOf 3 (.reg .e) s

/-- `BIT 3,H` (45_bit.md R310). -/
def execBit3H (s : State) : Result := testBitOf 3 (.reg .h) s

/-- `BIT 3,L` (45_bit.md R310). -/
def execBit3L (s : State) : Result := testBitOf 3 (.reg .l) s

/-- `BIT 3,A` (45_bit.md R310). -/
def execBit3A (s : State) : Result := testBitOf 3 (.reg .a) s

/-- `BIT 4,B` (45_bit.md R310). -/
def execBit4B (s : State) : Result := testBitOf 4 (.reg .b) s

/-- `BIT 4,C` (45_bit.md R310). -/
def execBit4C (s : State) : Result := testBitOf 4 (.reg .c) s

/-- `BIT 4,D` (45_bit.md R310). -/
def execBit4D (s : State) : Result := testBitOf 4 (.reg .d) s

/-- `BIT 4,E` (45_bit.md R310). -/
def execBit4E (s : State) : Result := testBitOf 4 (.reg .e) s

/-- `BIT 4,H` (45_bit.md R310). -/
def execBit4H (s : State) : Result := testBitOf 4 (.reg .h) s

/-- `BIT 4,L` (45_bit.md R310). -/
def execBit4L (s : State) : Result := testBitOf 4 (.reg .l) s

/-- `BIT 4,A` (45_bit.md R310). -/
def execBit4A (s : State) : Result := testBitOf 4 (.reg .a) s

/-- `BIT 5,B` (45_bit.md R310). -/
def execBit5B (s : State) : Result := testBitOf 5 (.reg .b) s

/-- `BIT 5,C` (45_bit.md R310). -/
def execBit5C (s : State) : Result := testBitOf 5 (.reg .c) s

/-- `BIT 5,D` (45_bit.md R310). -/
def execBit5D (s : State) : Result := testBitOf 5 (.reg .d) s

/-- `BIT 5,E` (45_bit.md R310). -/
def execBit5E (s : State) : Result := testBitOf 5 (.reg .e) s

/-- `BIT 5,H` (45_bit.md R310). -/
def execBit5H (s : State) : Result := testBitOf 5 (.reg .h) s

/-- `BIT 5,L` (45_bit.md R310). -/
def execBit5L (s : State) : Result := testBitOf 5 (.reg .l) s

/-- `BIT 5,A` (45_bit.md R310). -/
def execBit5A (s : State) : Result := testBitOf 5 (.reg .a) s

/-- `BIT 6,B` (45_bit.md R310). -/
def execBit6B (s : State) : Result := testBitOf 6 (.reg .b) s

/-- `BIT 6,C` (45_bit.md R310). -/
def execBit6C (s : State) : Result := testBitOf 6 (.reg .c) s

/-- `BIT 6,D` (45_bit.md R310). -/
def execBit6D (s : State) : Result := testBitOf 6 (.reg .d) s

/-- `BIT 6,E` (45_bit.md R310). -/
def execBit6E (s : State) : Result := testBitOf 6 (.reg .e) s

/-- `BIT 6,H` (45_bit.md R310). -/
def execBit6H (s : State) : Result := testBitOf 6 (.reg .h) s

/-- `BIT 6,L` (45_bit.md R310). -/
def execBit6L (s : State) : Result := testBitOf 6 (.reg .l) s

/-- `BIT 6,A` (45_bit.md R310). -/
def execBit6A (s : State) : Result := testBitOf 6 (.reg .a) s

/-- `BIT 7,B` (45_bit.md R310). -/
def execBit7B (s : State) : Result := testBitOf 7 (.reg .b) s

/-- `BIT 7,C` (45_bit.md R310). -/
def execBit7C (s : State) : Result := testBitOf 7 (.reg .c) s

/-- `BIT 7,D` (45_bit.md R310). -/
def execBit7D (s : State) : Result := testBitOf 7 (.reg .d) s

/-- `BIT 7,E` (45_bit.md R310). -/
def execBit7E (s : State) : Result := testBitOf 7 (.reg .e) s

/-- `BIT 7,H` (45_bit.md R310). -/
def execBit7H (s : State) : Result := testBitOf 7 (.reg .h) s

/-- `BIT 7,L` (45_bit.md R310). -/
def execBit7L (s : State) : Result := testBitOf 7 (.reg .l) s

/-- `BIT 7,A` (45_bit.md R310). -/
def execBit7A (s : State) : Result := testBitOf 7 (.reg .a) s

/-- `BIT 0,(HL)` (45_bit.md R311). -/
def execBit0IndHl (s : State) : Result := testBitOf 0 .indHl s

/-- `BIT 1,(HL)` (45_bit.md R311). -/
def execBit1IndHl (s : State) : Result := testBitOf 1 .indHl s

/-- `BIT 2,(HL)` (45_bit.md R311). -/
def execBit2IndHl (s : State) : Result := testBitOf 2 .indHl s

/-- `BIT 3,(HL)` (45_bit.md R311). -/
def execBit3IndHl (s : State) : Result := testBitOf 3 .indHl s

/-- `BIT 4,(HL)` (45_bit.md R311). -/
def execBit4IndHl (s : State) : Result := testBitOf 4 .indHl s

/-- `BIT 5,(HL)` (45_bit.md R311). -/
def execBit5IndHl (s : State) : Result := testBitOf 5 .indHl s

/-- `BIT 6,(HL)` (45_bit.md R311). -/
def execBit6IndHl (s : State) : Result := testBitOf 6 .indHl s

/-- `BIT 7,(HL)` (45_bit.md R311). -/
def execBit7IndHl (s : State) : Result := testBitOf 7 .indHl s

/-- `RES 0,B` (45_bit.md R312). -/
def execRes0B (s : State) : Result := resetBitOf 0 (.reg .b) s

/-- `RES 0,C` (45_bit.md R312). -/
def execRes0C (s : State) : Result := resetBitOf 0 (.reg .c) s

/-- `RES 0,D` (45_bit.md R312). -/
def execRes0D (s : State) : Result := resetBitOf 0 (.reg .d) s

/-- `RES 0,E` (45_bit.md R312). -/
def execRes0E (s : State) : Result := resetBitOf 0 (.reg .e) s

/-- `RES 0,H` (45_bit.md R312). -/
def execRes0H (s : State) : Result := resetBitOf 0 (.reg .h) s

/-- `RES 0,L` (45_bit.md R312). -/
def execRes0L (s : State) : Result := resetBitOf 0 (.reg .l) s

/-- `RES 0,(HL)` (45_bit.md R312). -/
def execRes0IndHl (s : State) : Result := resetBitOf 0 .indHl s

/-- `RES 0,A` (45_bit.md R312). -/
def execRes0A (s : State) : Result := resetBitOf 0 (.reg .a) s

/-- `RES 1,B` (45_bit.md R312). -/
def execRes1B (s : State) : Result := resetBitOf 1 (.reg .b) s

/-- `RES 1,C` (45_bit.md R312). -/
def execRes1C (s : State) : Result := resetBitOf 1 (.reg .c) s

/-- `RES 1,D` (45_bit.md R312). -/
def execRes1D (s : State) : Result := resetBitOf 1 (.reg .d) s

/-- `RES 1,E` (45_bit.md R312). -/
def execRes1E (s : State) : Result := resetBitOf 1 (.reg .e) s

/-- `RES 1,H` (45_bit.md R312). -/
def execRes1H (s : State) : Result := resetBitOf 1 (.reg .h) s

/-- `RES 1,L` (45_bit.md R312). -/
def execRes1L (s : State) : Result := resetBitOf 1 (.reg .l) s

/-- `RES 1,(HL)` (45_bit.md R312). -/
def execRes1IndHl (s : State) : Result := resetBitOf 1 .indHl s

/-- `RES 1,A` (45_bit.md R312). -/
def execRes1A (s : State) : Result := resetBitOf 1 (.reg .a) s

/-- `RES 2,B` (45_bit.md R312). -/
def execRes2B (s : State) : Result := resetBitOf 2 (.reg .b) s

/-- `RES 2,C` (45_bit.md R312). -/
def execRes2C (s : State) : Result := resetBitOf 2 (.reg .c) s

/-- `RES 2,D` (45_bit.md R312). -/
def execRes2D (s : State) : Result := resetBitOf 2 (.reg .d) s

/-- `RES 2,E` (45_bit.md R312). -/
def execRes2E (s : State) : Result := resetBitOf 2 (.reg .e) s

/-- `RES 2,H` (45_bit.md R312). -/
def execRes2H (s : State) : Result := resetBitOf 2 (.reg .h) s

/-- `RES 2,L` (45_bit.md R312). -/
def execRes2L (s : State) : Result := resetBitOf 2 (.reg .l) s

/-- `RES 2,(HL)` (45_bit.md R312). -/
def execRes2IndHl (s : State) : Result := resetBitOf 2 .indHl s

/-- `RES 2,A` (45_bit.md R312). -/
def execRes2A (s : State) : Result := resetBitOf 2 (.reg .a) s

/-- `RES 3,B` (45_bit.md R312). -/
def execRes3B (s : State) : Result := resetBitOf 3 (.reg .b) s

/-- `RES 3,C` (45_bit.md R312). -/
def execRes3C (s : State) : Result := resetBitOf 3 (.reg .c) s

/-- `RES 3,D` (45_bit.md R312). -/
def execRes3D (s : State) : Result := resetBitOf 3 (.reg .d) s

/-- `RES 3,E` (45_bit.md R312). -/
def execRes3E (s : State) : Result := resetBitOf 3 (.reg .e) s

/-- `RES 3,H` (45_bit.md R312). -/
def execRes3H (s : State) : Result := resetBitOf 3 (.reg .h) s

/-- `RES 3,L` (45_bit.md R312). -/
def execRes3L (s : State) : Result := resetBitOf 3 (.reg .l) s

/-- `RES 3,(HL)` (45_bit.md R312). -/
def execRes3IndHl (s : State) : Result := resetBitOf 3 .indHl s

/-- `RES 3,A` (45_bit.md R312). -/
def execRes3A (s : State) : Result := resetBitOf 3 (.reg .a) s

/-- `RES 4,B` (45_bit.md R312). -/
def execRes4B (s : State) : Result := resetBitOf 4 (.reg .b) s

/-- `RES 4,C` (45_bit.md R312). -/
def execRes4C (s : State) : Result := resetBitOf 4 (.reg .c) s

/-- `RES 4,D` (45_bit.md R312). -/
def execRes4D (s : State) : Result := resetBitOf 4 (.reg .d) s

/-- `RES 4,E` (45_bit.md R312). -/
def execRes4E (s : State) : Result := resetBitOf 4 (.reg .e) s

/-- `RES 4,H` (45_bit.md R312). -/
def execRes4H (s : State) : Result := resetBitOf 4 (.reg .h) s

/-- `RES 4,L` (45_bit.md R312). -/
def execRes4L (s : State) : Result := resetBitOf 4 (.reg .l) s

/-- `RES 4,(HL)` (45_bit.md R312). -/
def execRes4IndHl (s : State) : Result := resetBitOf 4 .indHl s

/-- `RES 4,A` (45_bit.md R312). -/
def execRes4A (s : State) : Result := resetBitOf 4 (.reg .a) s

/-- `RES 5,B` (45_bit.md R312). -/
def execRes5B (s : State) : Result := resetBitOf 5 (.reg .b) s

/-- `RES 5,C` (45_bit.md R312). -/
def execRes5C (s : State) : Result := resetBitOf 5 (.reg .c) s

/-- `RES 5,D` (45_bit.md R312). -/
def execRes5D (s : State) : Result := resetBitOf 5 (.reg .d) s

/-- `RES 5,E` (45_bit.md R312). -/
def execRes5E (s : State) : Result := resetBitOf 5 (.reg .e) s

/-- `RES 5,H` (45_bit.md R312). -/
def execRes5H (s : State) : Result := resetBitOf 5 (.reg .h) s

/-- `RES 5,L` (45_bit.md R312). -/
def execRes5L (s : State) : Result := resetBitOf 5 (.reg .l) s

/-- `RES 5,(HL)` (45_bit.md R312). -/
def execRes5IndHl (s : State) : Result := resetBitOf 5 .indHl s

/-- `RES 5,A` (45_bit.md R312). -/
def execRes5A (s : State) : Result := resetBitOf 5 (.reg .a) s

/-- `RES 6,B` (45_bit.md R312). -/
def execRes6B (s : State) : Result := resetBitOf 6 (.reg .b) s

/-- `RES 6,C` (45_bit.md R312). -/
def execRes6C (s : State) : Result := resetBitOf 6 (.reg .c) s

/-- `RES 6,D` (45_bit.md R312). -/
def execRes6D (s : State) : Result := resetBitOf 6 (.reg .d) s

/-- `RES 6,E` (45_bit.md R312). -/
def execRes6E (s : State) : Result := resetBitOf 6 (.reg .e) s

/-- `RES 6,H` (45_bit.md R312). -/
def execRes6H (s : State) : Result := resetBitOf 6 (.reg .h) s

/-- `RES 6,L` (45_bit.md R312). -/
def execRes6L (s : State) : Result := resetBitOf 6 (.reg .l) s

/-- `RES 6,(HL)` (45_bit.md R312). -/
def execRes6IndHl (s : State) : Result := resetBitOf 6 .indHl s

/-- `RES 6,A` (45_bit.md R312). -/
def execRes6A (s : State) : Result := resetBitOf 6 (.reg .a) s

/-- `RES 7,B` (45_bit.md R312). -/
def execRes7B (s : State) : Result := resetBitOf 7 (.reg .b) s

/-- `RES 7,C` (45_bit.md R312). -/
def execRes7C (s : State) : Result := resetBitOf 7 (.reg .c) s

/-- `RES 7,D` (45_bit.md R312). -/
def execRes7D (s : State) : Result := resetBitOf 7 (.reg .d) s

/-- `RES 7,E` (45_bit.md R312). -/
def execRes7E (s : State) : Result := resetBitOf 7 (.reg .e) s

/-- `RES 7,H` (45_bit.md R312). -/
def execRes7H (s : State) : Result := resetBitOf 7 (.reg .h) s

/-- `RES 7,L` (45_bit.md R312). -/
def execRes7L (s : State) : Result := resetBitOf 7 (.reg .l) s

/-- `RES 7,(HL)` (45_bit.md R312). -/
def execRes7IndHl (s : State) : Result := resetBitOf 7 .indHl s

/-- `RES 7,A` (45_bit.md R312). -/
def execRes7A (s : State) : Result := resetBitOf 7 (.reg .a) s

/-- `SET 0,B` (45_bit.md R313). -/
def execSet0B (s : State) : Result := setBitOf 0 (.reg .b) s

/-- `SET 0,C` (45_bit.md R313). -/
def execSet0C (s : State) : Result := setBitOf 0 (.reg .c) s

/-- `SET 0,D` (45_bit.md R313). -/
def execSet0D (s : State) : Result := setBitOf 0 (.reg .d) s

/-- `SET 0,E` (45_bit.md R313). -/
def execSet0E (s : State) : Result := setBitOf 0 (.reg .e) s

/-- `SET 0,H` (45_bit.md R313). -/
def execSet0H (s : State) : Result := setBitOf 0 (.reg .h) s

/-- `SET 0,L` (45_bit.md R313). -/
def execSet0L (s : State) : Result := setBitOf 0 (.reg .l) s

/-- `SET 0,(HL)` (45_bit.md R313). -/
def execSet0IndHl (s : State) : Result := setBitOf 0 .indHl s

/-- `SET 0,A` (45_bit.md R313). -/
def execSet0A (s : State) : Result := setBitOf 0 (.reg .a) s

/-- `SET 1,B` (45_bit.md R313). -/
def execSet1B (s : State) : Result := setBitOf 1 (.reg .b) s

/-- `SET 1,C` (45_bit.md R313). -/
def execSet1C (s : State) : Result := setBitOf 1 (.reg .c) s

/-- `SET 1,D` (45_bit.md R313). -/
def execSet1D (s : State) : Result := setBitOf 1 (.reg .d) s

/-- `SET 1,E` (45_bit.md R313). -/
def execSet1E (s : State) : Result := setBitOf 1 (.reg .e) s

/-- `SET 1,H` (45_bit.md R313). -/
def execSet1H (s : State) : Result := setBitOf 1 (.reg .h) s

/-- `SET 1,L` (45_bit.md R313). -/
def execSet1L (s : State) : Result := setBitOf 1 (.reg .l) s

/-- `SET 1,(HL)` (45_bit.md R313). -/
def execSet1IndHl (s : State) : Result := setBitOf 1 .indHl s

/-- `SET 1,A` (45_bit.md R313). -/
def execSet1A (s : State) : Result := setBitOf 1 (.reg .a) s

/-- `SET 2,B` (45_bit.md R313). -/
def execSet2B (s : State) : Result := setBitOf 2 (.reg .b) s

/-- `SET 2,C` (45_bit.md R313). -/
def execSet2C (s : State) : Result := setBitOf 2 (.reg .c) s

/-- `SET 2,D` (45_bit.md R313). -/
def execSet2D (s : State) : Result := setBitOf 2 (.reg .d) s

/-- `SET 2,E` (45_bit.md R313). -/
def execSet2E (s : State) : Result := setBitOf 2 (.reg .e) s

/-- `SET 2,H` (45_bit.md R313). -/
def execSet2H (s : State) : Result := setBitOf 2 (.reg .h) s

/-- `SET 2,L` (45_bit.md R313). -/
def execSet2L (s : State) : Result := setBitOf 2 (.reg .l) s

/-- `SET 2,(HL)` (45_bit.md R313). -/
def execSet2IndHl (s : State) : Result := setBitOf 2 .indHl s

/-- `SET 2,A` (45_bit.md R313). -/
def execSet2A (s : State) : Result := setBitOf 2 (.reg .a) s

/-- `SET 3,B` (45_bit.md R313). -/
def execSet3B (s : State) : Result := setBitOf 3 (.reg .b) s

/-- `SET 3,C` (45_bit.md R313). -/
def execSet3C (s : State) : Result := setBitOf 3 (.reg .c) s

/-- `SET 3,D` (45_bit.md R313). -/
def execSet3D (s : State) : Result := setBitOf 3 (.reg .d) s

/-- `SET 3,E` (45_bit.md R313). -/
def execSet3E (s : State) : Result := setBitOf 3 (.reg .e) s

/-- `SET 3,H` (45_bit.md R313). -/
def execSet3H (s : State) : Result := setBitOf 3 (.reg .h) s

/-- `SET 3,L` (45_bit.md R313). -/
def execSet3L (s : State) : Result := setBitOf 3 (.reg .l) s

/-- `SET 3,(HL)` (45_bit.md R313). -/
def execSet3IndHl (s : State) : Result := setBitOf 3 .indHl s

/-- `SET 3,A` (45_bit.md R313). -/
def execSet3A (s : State) : Result := setBitOf 3 (.reg .a) s

/-- `SET 4,B` (45_bit.md R313). -/
def execSet4B (s : State) : Result := setBitOf 4 (.reg .b) s

/-- `SET 4,C` (45_bit.md R313). -/
def execSet4C (s : State) : Result := setBitOf 4 (.reg .c) s

/-- `SET 4,D` (45_bit.md R313). -/
def execSet4D (s : State) : Result := setBitOf 4 (.reg .d) s

/-- `SET 4,E` (45_bit.md R313). -/
def execSet4E (s : State) : Result := setBitOf 4 (.reg .e) s

/-- `SET 4,H` (45_bit.md R313). -/
def execSet4H (s : State) : Result := setBitOf 4 (.reg .h) s

/-- `SET 4,L` (45_bit.md R313). -/
def execSet4L (s : State) : Result := setBitOf 4 (.reg .l) s

/-- `SET 4,(HL)` (45_bit.md R313). -/
def execSet4IndHl (s : State) : Result := setBitOf 4 .indHl s

/-- `SET 4,A` (45_bit.md R313). -/
def execSet4A (s : State) : Result := setBitOf 4 (.reg .a) s

/-- `SET 5,B` (45_bit.md R313). -/
def execSet5B (s : State) : Result := setBitOf 5 (.reg .b) s

/-- `SET 5,C` (45_bit.md R313). -/
def execSet5C (s : State) : Result := setBitOf 5 (.reg .c) s

/-- `SET 5,D` (45_bit.md R313). -/
def execSet5D (s : State) : Result := setBitOf 5 (.reg .d) s

/-- `SET 5,E` (45_bit.md R313). -/
def execSet5E (s : State) : Result := setBitOf 5 (.reg .e) s

/-- `SET 5,H` (45_bit.md R313). -/
def execSet5H (s : State) : Result := setBitOf 5 (.reg .h) s

/-- `SET 5,L` (45_bit.md R313). -/
def execSet5L (s : State) : Result := setBitOf 5 (.reg .l) s

/-- `SET 5,(HL)` (45_bit.md R313). -/
def execSet5IndHl (s : State) : Result := setBitOf 5 .indHl s

/-- `SET 5,A` (45_bit.md R313). -/
def execSet5A (s : State) : Result := setBitOf 5 (.reg .a) s

/-- `SET 6,B` (45_bit.md R313). -/
def execSet6B (s : State) : Result := setBitOf 6 (.reg .b) s

/-- `SET 6,C` (45_bit.md R313). -/
def execSet6C (s : State) : Result := setBitOf 6 (.reg .c) s

/-- `SET 6,D` (45_bit.md R313). -/
def execSet6D (s : State) : Result := setBitOf 6 (.reg .d) s

/-- `SET 6,E` (45_bit.md R313). -/
def execSet6E (s : State) : Result := setBitOf 6 (.reg .e) s

/-- `SET 6,H` (45_bit.md R313). -/
def execSet6H (s : State) : Result := setBitOf 6 (.reg .h) s

/-- `SET 6,L` (45_bit.md R313). -/
def execSet6L (s : State) : Result := setBitOf 6 (.reg .l) s

/-- `SET 6,(HL)` (45_bit.md R313). -/
def execSet6IndHl (s : State) : Result := setBitOf 6 .indHl s

/-- `SET 6,A` (45_bit.md R313). -/
def execSet6A (s : State) : Result := setBitOf 6 (.reg .a) s

/-- `SET 7,B` (45_bit.md R313). -/
def execSet7B (s : State) : Result := setBitOf 7 (.reg .b) s

/-- `SET 7,C` (45_bit.md R313). -/
def execSet7C (s : State) : Result := setBitOf 7 (.reg .c) s

/-- `SET 7,D` (45_bit.md R313). -/
def execSet7D (s : State) : Result := setBitOf 7 (.reg .d) s

/-- `SET 7,E` (45_bit.md R313). -/
def execSet7E (s : State) : Result := setBitOf 7 (.reg .e) s

/-- `SET 7,H` (45_bit.md R313). -/
def execSet7H (s : State) : Result := setBitOf 7 (.reg .h) s

/-- `SET 7,L` (45_bit.md R313). -/
def execSet7L (s : State) : Result := setBitOf 7 (.reg .l) s

/-- `SET 7,(HL)` (45_bit.md R313). -/
def execSet7IndHl (s : State) : Result := setBitOf 7 .indHl s

/-- `SET 7,A` (45_bit.md R313). -/
def execSet7A (s : State) : Result := setBitOf 7 (.reg .a) s

end Sys2Proof.Machine
end

