-- ==== Sys2Proof/Machine/Rotate.lean ====
section
/-! DEFINITION. Rotates and shifts (44_rotate_shift.md). -/

namespace Sys2Proof.Machine

/-- An accumulator rotate, whose Z is always 0 (44_rotate_shift.md R290 to R293). -/
def rotateAcc (op : RotOp) (s : State) : Result :=
  let v := s.reg .a
  .next ((s.setReg .a (rotResult op v s.flags.c).1).setFlags (accRotFlags op v s.flags.c))

/-- An extended-table rotate or shift of a register or of the byte at HL (44_rotate_shift.md R294 to R302). -/
def rotateOperand (op : RotOp) (m : Operand) (s : State) : Result :=
  let v := s.getOperand m
  .next ((s.setOperand m (rotResult op v s.flags.c).1).setFlags (rotFlags op v s.flags.c))

/-- `RLCA` (44_rotate_shift.md R290). -/
def execRlca (s : State) : Result := rotateAcc .rlc s

/-- `RRCA` (44_rotate_shift.md R291). -/
def execRrca (s : State) : Result := rotateAcc .rrc s

/-- `RLA` (44_rotate_shift.md R292). -/
def execRla (s : State) : Result := rotateAcc .rl s

/-- `RRA` (44_rotate_shift.md R293). -/
def execRra (s : State) : Result := rotateAcc .rr s

/-- `RLC B` (44_rotate_shift.md R295). -/
def execRlcB (s : State) : Result := rotateOperand .rlc (.reg .b) s

/-- `RLC C` (44_rotate_shift.md R295). -/
def execRlcC (s : State) : Result := rotateOperand .rlc (.reg .c) s

/-- `RLC D` (44_rotate_shift.md R295). -/
def execRlcD (s : State) : Result := rotateOperand .rlc (.reg .d) s

/-- `RLC E` (44_rotate_shift.md R295). -/
def execRlcE (s : State) : Result := rotateOperand .rlc (.reg .e) s

/-- `RLC H` (44_rotate_shift.md R295). -/
def execRlcH (s : State) : Result := rotateOperand .rlc (.reg .h) s

/-- `RLC L` (44_rotate_shift.md R295). -/
def execRlcL (s : State) : Result := rotateOperand .rlc (.reg .l) s

/-- `RLC (HL)` (44_rotate_shift.md R295). -/
def execRlcIndHl (s : State) : Result := rotateOperand .rlc .indHl s

/-- `RLC A` (44_rotate_shift.md R295). -/
def execRlcA (s : State) : Result := rotateOperand .rlc (.reg .a) s

/-- `RRC B` (44_rotate_shift.md R296). -/
def execRrcB (s : State) : Result := rotateOperand .rrc (.reg .b) s

/-- `RRC C` (44_rotate_shift.md R296). -/
def execRrcC (s : State) : Result := rotateOperand .rrc (.reg .c) s

/-- `RRC D` (44_rotate_shift.md R296). -/
def execRrcD (s : State) : Result := rotateOperand .rrc (.reg .d) s

/-- `RRC E` (44_rotate_shift.md R296). -/
def execRrcE (s : State) : Result := rotateOperand .rrc (.reg .e) s

/-- `RRC H` (44_rotate_shift.md R296). -/
def execRrcH (s : State) : Result := rotateOperand .rrc (.reg .h) s

/-- `RRC L` (44_rotate_shift.md R296). -/
def execRrcL (s : State) : Result := rotateOperand .rrc (.reg .l) s

/-- `RRC (HL)` (44_rotate_shift.md R296). -/
def execRrcIndHl (s : State) : Result := rotateOperand .rrc .indHl s

/-- `RRC A` (44_rotate_shift.md R296). -/
def execRrcA (s : State) : Result := rotateOperand .rrc (.reg .a) s

/-- `RL B` (44_rotate_shift.md R297). -/
def execRlB (s : State) : Result := rotateOperand .rl (.reg .b) s

/-- `RL C` (44_rotate_shift.md R297). -/
def execRlC (s : State) : Result := rotateOperand .rl (.reg .c) s

/-- `RL D` (44_rotate_shift.md R297). -/
def execRlD (s : State) : Result := rotateOperand .rl (.reg .d) s

/-- `RL E` (44_rotate_shift.md R297). -/
def execRlE (s : State) : Result := rotateOperand .rl (.reg .e) s

/-- `RL H` (44_rotate_shift.md R297). -/
def execRlH (s : State) : Result := rotateOperand .rl (.reg .h) s

/-- `RL L` (44_rotate_shift.md R297). -/
def execRlL (s : State) : Result := rotateOperand .rl (.reg .l) s

/-- `RL (HL)` (44_rotate_shift.md R297). -/
def execRlIndHl (s : State) : Result := rotateOperand .rl .indHl s

/-- `RL A` (44_rotate_shift.md R297). -/
def execRlA (s : State) : Result := rotateOperand .rl (.reg .a) s

/-- `RR B` (44_rotate_shift.md R298). -/
def execRrB (s : State) : Result := rotateOperand .rr (.reg .b) s

/-- `RR C` (44_rotate_shift.md R298). -/
def execRrC (s : State) : Result := rotateOperand .rr (.reg .c) s

/-- `RR D` (44_rotate_shift.md R298). -/
def execRrD (s : State) : Result := rotateOperand .rr (.reg .d) s

/-- `RR E` (44_rotate_shift.md R298). -/
def execRrE (s : State) : Result := rotateOperand .rr (.reg .e) s

/-- `RR H` (44_rotate_shift.md R298). -/
def execRrH (s : State) : Result := rotateOperand .rr (.reg .h) s

/-- `RR L` (44_rotate_shift.md R298). -/
def execRrL (s : State) : Result := rotateOperand .rr (.reg .l) s

/-- `RR (HL)` (44_rotate_shift.md R298). -/
def execRrIndHl (s : State) : Result := rotateOperand .rr .indHl s

/-- `RR A` (44_rotate_shift.md R298). -/
def execRrA (s : State) : Result := rotateOperand .rr (.reg .a) s

/-- `SLA B` (44_rotate_shift.md R299). -/
def execSlaB (s : State) : Result := rotateOperand .sla (.reg .b) s

/-- `SLA C` (44_rotate_shift.md R299). -/
def execSlaC (s : State) : Result := rotateOperand .sla (.reg .c) s

/-- `SLA D` (44_rotate_shift.md R299). -/
def execSlaD (s : State) : Result := rotateOperand .sla (.reg .d) s

/-- `SLA E` (44_rotate_shift.md R299). -/
def execSlaE (s : State) : Result := rotateOperand .sla (.reg .e) s

/-- `SLA H` (44_rotate_shift.md R299). -/
def execSlaH (s : State) : Result := rotateOperand .sla (.reg .h) s

/-- `SLA L` (44_rotate_shift.md R299). -/
def execSlaL (s : State) : Result := rotateOperand .sla (.reg .l) s

/-- `SLA (HL)` (44_rotate_shift.md R299). -/
def execSlaIndHl (s : State) : Result := rotateOperand .sla .indHl s

/-- `SLA A` (44_rotate_shift.md R299). -/
def execSlaA (s : State) : Result := rotateOperand .sla (.reg .a) s

/-- `SRA B` (44_rotate_shift.md R300). -/
def execSraB (s : State) : Result := rotateOperand .sra (.reg .b) s

/-- `SRA C` (44_rotate_shift.md R300). -/
def execSraC (s : State) : Result := rotateOperand .sra (.reg .c) s

/-- `SRA D` (44_rotate_shift.md R300). -/
def execSraD (s : State) : Result := rotateOperand .sra (.reg .d) s

/-- `SRA E` (44_rotate_shift.md R300). -/
def execSraE (s : State) : Result := rotateOperand .sra (.reg .e) s

/-- `SRA H` (44_rotate_shift.md R300). -/
def execSraH (s : State) : Result := rotateOperand .sra (.reg .h) s

/-- `SRA L` (44_rotate_shift.md R300). -/
def execSraL (s : State) : Result := rotateOperand .sra (.reg .l) s

/-- `SRA (HL)` (44_rotate_shift.md R300). -/
def execSraIndHl (s : State) : Result := rotateOperand .sra .indHl s

/-- `SRA A` (44_rotate_shift.md R300). -/
def execSraA (s : State) : Result := rotateOperand .sra (.reg .a) s

/-- `SWAP B` (44_rotate_shift.md R301). -/
def execSwapB (s : State) : Result := rotateOperand .swap (.reg .b) s

/-- `SWAP C` (44_rotate_shift.md R301). -/
def execSwapC (s : State) : Result := rotateOperand .swap (.reg .c) s

/-- `SWAP D` (44_rotate_shift.md R301). -/
def execSwapD (s : State) : Result := rotateOperand .swap (.reg .d) s

/-- `SWAP E` (44_rotate_shift.md R301). -/
def execSwapE (s : State) : Result := rotateOperand .swap (.reg .e) s

/-- `SWAP H` (44_rotate_shift.md R301). -/
def execSwapH (s : State) : Result := rotateOperand .swap (.reg .h) s

/-- `SWAP L` (44_rotate_shift.md R301). -/
def execSwapL (s : State) : Result := rotateOperand .swap (.reg .l) s

/-- `SWAP (HL)` (44_rotate_shift.md R301). -/
def execSwapIndHl (s : State) : Result := rotateOperand .swap .indHl s

/-- `SWAP A` (44_rotate_shift.md R301). -/
def execSwapA (s : State) : Result := rotateOperand .swap (.reg .a) s

/-- `SRL B` (44_rotate_shift.md R302). -/
def execSrlB (s : State) : Result := rotateOperand .srl (.reg .b) s

/-- `SRL C` (44_rotate_shift.md R302). -/
def execSrlC (s : State) : Result := rotateOperand .srl (.reg .c) s

/-- `SRL D` (44_rotate_shift.md R302). -/
def execSrlD (s : State) : Result := rotateOperand .srl (.reg .d) s

/-- `SRL E` (44_rotate_shift.md R302). -/
def execSrlE (s : State) : Result := rotateOperand .srl (.reg .e) s

/-- `SRL H` (44_rotate_shift.md R302). -/
def execSrlH (s : State) : Result := rotateOperand .srl (.reg .h) s

/-- `SRL L` (44_rotate_shift.md R302). -/
def execSrlL (s : State) : Result := rotateOperand .srl (.reg .l) s

/-- `SRL (HL)` (44_rotate_shift.md R302). -/
def execSrlIndHl (s : State) : Result := rotateOperand .srl .indHl s

/-- `SRL A` (44_rotate_shift.md R302). -/
def execSrlA (s : State) : Result := rotateOperand .srl (.reg .a) s

end Sys2Proof.Machine
end

