-- ==== Sys2Proof/Machine/System.lean ====
section
/-! DEFINITION. System instructions (47_system.md), the 0xCB byte and the invalid slots. -/

namespace Sys2Proof.Machine

/-- The implementation of extended opcode `op`, by its fields x, y and z (30_encoding.md R128). -/
def runExtended (op : Byte) (s : State) : Result :=
  let m := operandOfCode (fieldZ op)
  if op.toNat < 0x40 then rotateOperand (rotOfCode (fieldY op)) m s
  else if op.toNat < 0x80 then testBitOf (fieldY op) m s
  else if op.toNat < 0xC0 then resetBitOf (fieldY op) m s
  else setBitOf (fieldY op) m s

/-- `NOP` (47_system.md R340). -/
def execNop (s : State) : Result := .next s

/-- `HALT` (47_system.md R341). -/
def execHalt (s : State) : Result := .next (s.setHalted true)

/-- STOP (47_system.md R342), by STOP_MODE; the fault names the opcode's address, two bytes before the post-fetch PC. -/
def execStop (s : State) : Result :=
  match s.params.stopMode with
  | .fault => .fault (.stopUnsupported (s.pc - 2) s)
  | .nop2 => .next s

/-- `DI` (47_system.md R343). -/
def execDi (s : State) : Result := .next (s.setIme false)

/-- `EI` (47_system.md R344). -/
def execEi (s : State) : Result := .next (s.setIme true)

/-- The 0xCB byte (47_system.md R345), PC past it: the extended opcode is read from the next byte, PC moves past that one
too, the whole instruction's cost is charged, and it runs (30_encoding.md R134 steps 3 to 7; log entry 8). -/
def execPrefixCb (s : State) : Result :=
  let op := s.memRead s.pc
  runExtended op ((s.setPc (s.pc + 1)).charge (extendedSlot op).cycles)

/-- An invalid slot (60_exceptions.md R401): the fatal error, PC still the opcode's address. -/
def execInvalid (op : Byte) (s : State) : Result := .fault (.opcodeNotFound .primary op s.pc s)

end Sys2Proof.Machine
end

