-- ==== Sys2Proof/Machine/Step.lean ====
section
/-! DEFINITION. One step of the machine, and a state whose next step runs a given instruction. -/

namespace Sys2Proof.Machine

/-- One `Step()` (60_exceptions.md R400) of the core, alone. -/
def coreStep (s : State) : Result := coreStepWith exec s

/-- One step of the machine: a `Step()`, then the driver's PPU advance (60_exceptions.md R400, R407). -/
def step (s : State) : Host.Outcome State Fault Refusal := stepWith exec s

/-- `s` with the instruction of the opcode table whose bits are `w` where the next step fetches it (log entry 10). -/
def State.withFetchWord (s : State) (nbits w : Nat) : State :=
  let (b0, b1, b2) := tableBytes nbits w
  s.placeInstr b0 b1 b2

end Sys2Proof.Machine
end

