-- ==== Sys2Proof/Machine/Boot.lean ====
section
/-! DEFINITION. What the host may do between construction and the first Step, and between Steps: loading, simulated boot,
the 12-byte register block, draining the serial buffer (70_reset_and_hazards.md R501 to R505, 10_state.md R38). -/

namespace Sys2Proof.Machine

/-- Why a load is refused (60_exceptions.md R406). -/
inductive LoadError where
  /-- The boot ROM is not exactly 256 bytes (70_reset_and_hazards.md R501). -/
  | bootRomSize
  /-- The image is longer than 8 MiB (70_reset_and_hazards.md R502). -/
  | imageTooLong
  /-- The image's byte at 0x0143 is 0xC0 (70_reset_and_hazards.md R502). -/
  | colorOnly
  deriving DecidableEq, Repr

/-- `LoadBootROM(bytes)` (70_reset_and_hazards.md R501, parameter P5). -/
def State.loadBootRom (s : State) (bytes : List Byte) : Except LoadError State :=
  if bytes.length = 256 then .ok (s.setBoot (Memory.ofBytes 0 bytes)) else .error .bootRomSize

/-- The ROM buffer with `bytes` copied over its first offsets, the rest as it was. -/
def Memory.copyIn (m : Memory) (bytes : List Byte) : Memory :=
  Memory.ofBytes 0 bytes ++ m.filter (fun x => decide (bytes.length ≤ x.1))

/-- `LoadROM(bytes)` (70_reset_and_hazards.md R502, parameter P6): `rom[i] <- bytes[i]` below the image's length. -/
def State.loadRom (s : State) (bytes : List Byte) : Except LoadError State :=
  if 8388608 < bytes.length then .error .imageTooLong
  else if bytes[0x0143]? = some 0xC0 then .error .colorOnly
  else .ok (s.setRom (s.rom.copyIn bytes))

/-- `SimulateBoot()`: the "after SimulateBoot" column of 10_state.md R20 (70_reset_and_hazards.md R503). -/
def State.simulateBoot (s : State) : State :=
  ((((s.setRegs { a := 0x01, b := 0x00, c := 0x13, d := 0x00, e := 0xD8, h := 0x01, l := 0x4D }).setFlags
    { z := true, n := false, h := true, c := true }).setSp 0xFFFE).setPc 0x0100).setBootOff true

/-- The 12-byte register block, PC and SP high byte first (70_reset_and_hazards.md R505). -/
def State.saveRegisters (s : State) : List Byte :=
  [s.regs.a, packFlags s.flags, s.regs.b, s.regs.c, s.regs.d, s.regs.e, s.regs.h, s.regs.l,
    hiByte s.pc, loByte s.pc, hiByte s.sp, loByte s.sp]

/-- Restoring a register block: exactly these registers, F through `unpack` (70_reset_and_hazards.md R505). A list that is
not 12 bytes long is no register block and changes nothing. -/
def State.restoreRegisters (s : State) (block : List Byte) : State :=
  match block with
  | [a, f, b, c, d, e, h, l, pch, pcl, sph, spl] =>
    (((s.setRegs { a := a, b := b, c := c, d := d, e := e, h := h, l := l }).setFlags (unpackFlags f)).setPc
      (wordOf pch pcl)).setSp (wordOf sph spl)
  | _ => s

/-- Draining the serial buffer "without affecting core state" (10_state.md R38): the captured bytes, and the state with the
buffer empty. -/
def State.drainSerial (s : State) : List Byte × State := (s.serialOut, s.setSerialOut [])

end Sys2Proof.Machine
end

