-- ==== Sys2Proof/Safety.lean ====
section
/-! DEFINITION. The terms claims are stated in: what an encoding says, which reads a store may change, what a form leaves
alone, and the invariant of the machine between two Steps. -/

namespace Sys2Proof.Machine

/-! ## Encodings -/

/-- `i` is encoded as `bytes`, those bytes decode to it whatever follows, PC moves past exactly them, and `cycles` is its
base cost. -/
def Encodes (i : Instr) (bytes : List Byte) (cycles : Nat) : Prop :=
  encode i = bytes ∧ (∀ rest, decode (bytes ++ rest) = .ok (i, rest)) ∧ i.pcAdvance = bytes.length ∧
    i.baseCycles = cycles

/-- The bytes of a two-operand 8-bit operation (42_alu8.md R250): `10 ooo rrr`, `10 ooo 110`, `11 ooo 110` and the byte. -/
def aluBytes (op : AluOp) (src : Source) : List Byte :=
  match src with
  | .reg r => [0x80 + 8 * op.code + (Operand.reg r).code]
  | .indHl => [0x80 + 8 * op.code + 6]
  | .imm n => [0xC6 + 8 * op.code, n]

/-- 4 cycles for a register, 8 for the byte at HL or an immediate (42_alu8.md R250). -/
def aluCost (src : Source) : Nat :=
  match src with
  | .reg _ => 4
  | .indHl => 8
  | .imm _ => 8

/-- Cycles of a two-byte instruction that reads and writes its operand (44_rotate_shift.md R294): 8, or 16 at HL. -/
def operandCost (m : Operand) : Nat :=
  match m with
  | .reg _ => 8
  | .indHl => 16

/-- The condition of a conditional instruction holds (46_control.md R320). -/
def Taken (cc : Cond) (s : State) : Prop :=
  (cc = .nz ∧ s.flags.z = false) ∨ (cc = .z ∧ s.flags.z = true) ∨ (cc = .nc ∧ s.flags.c = false) ∨
    (cc = .c ∧ s.flags.c = true)

/-! ## Memory -/

/-- The addresses forwarded to the PPU collaborator: VRAM and 0xFF40 to 0xFF4B (20_memory.md R68, R91). -/
def inPpuWindow (addr : Word) : Bool :=
  decide ((0x8000 ≤ addr.toNat ∧ addr.toNat < 0xA000) ∨ (0xFF40 ≤ addr.toNat ∧ addr.toNat ≤ 0xFF4B))

/-- The work RAM offset an address reaches, directly or through the echo (20_memory.md R70, R71). -/
def workRamOffset (addr : Word) : Option Nat :=
  if 0xC000 ≤ addr.toNat ∧ addr.toNat < 0xE000 then some (addr.toNat - 0xC000)
  else if 0xE000 ≤ addr.toNat ∧ addr.toNat < 0xFE00 then some (addr.toNat - 0xE000)
  else none

/-- A read of `x` may give another byte after a byte store at `addr`. A store changes the byte it names, and with it: the
echo of a work RAM byte (20_memory.md R71), the PPU's window through the PPU (R68), the bytes under the boot ROM overlay
when 0xFF50 is written (R65, R92). -/
def storeReaches (addr x : Word) : Bool :=
  if inPpuWindow addr then inPpuWindow x
  else if addr = 0xFF50 then decide (x = 0xFF50 ∨ x.toNat < 0x0100)
  else
    match workRamOffset addr with
    | some k => decide (workRamOffset x = some k)
    | none => decide (x = addr)

/-- Addresses that read back what was last stored there (20_memory.md R64, R67, R69 to R72, R75, R83, R84, R93): ROM outside the
overlay, external, work and echo RAM, OAM, high RAM, and the I/O addresses that are storage. -/
def State.isStorage (s : State) (addr : Word) : Bool :=
  match classify addr with
  | .romBank0 => s.bootOff || decide (0x0100 ≤ addr.toNat)
  | .romBank1 | .externalRam | .workRam0 | .workRam1 | .echoRam | .oam | .highRam => true
  | .ioRegisters => ioReg addr == .plain || ioReg addr == .sb || ioReg addr == .sc
  | .vram | .unusable | .interruptEnable => false

/-! ## The timer -/

/-- The period of the timer speed TAC selects, in cycles (60_exceptions.md R431, 90_conflicts.md C1). -/
def timerPeriod (tac : Byte) : Nat :=
  if tac.toNat % 4 = 0 then 1024 else if tac.toNat % 4 = 1 then 16 else if tac.toNat % 4 = 2 then 64 else 256

/-! ## Frames -/

/-- From `s` to `t` every read outside what stores at the addresses `stored` reach gives what it gave, every byte of the ROM
buffer and of the I/O storage, whether or not a read can show it now (20_memory.md R65 to R67, R93), and every register that
lives at an address is as it was unless its address is among `stored`, and so is all else but the 8-bit registers, the
flags, SP, PC, IME, Halted and `cycles`, which `Frame` speaks of. -/
structure Untouched (stored : List Word) (s t : State) : Prop where
  reads : ∀ x, (∀ a ∈ stored, storeReaches a x = false) → t.memRead x = s.memRead x
  rom : ∀ i : Nat, (∀ a ∈ stored, a.toNat ≠ i) ∨ 0x8000 ≤ i → t.rom.read i = s.rom.read i
  io : ∀ i : Nat, (∀ a ∈ stored, a.toNat ≠ 0xFF00 + i) → t.io.read i = s.io.read i
  ie : 0xFFFF ∉ stored → t.ie = s.ie
  ifl : 0xFF0F ∉ stored → t.ifl = s.ifl
  div : 0xFF04 ∉ stored → t.div = s.div
  tima : 0xFF05 ∉ stored → t.tima = s.tima
  tma : 0xFF06 ∉ stored → t.tma = s.tma
  tac : 0xFF07 ∉ stored → t.tac = s.tac
  joypSel : 0xFF00 ∉ stored → t.joypSel = s.joypSel
  bootOff : 0xFF50 ∉ stored → t.bootOff = s.bootOff
  serialOut : 0xFF01 ∉ stored → t.serialOut = s.serialOut
  ppu : (∀ a ∈ stored, inPpuWindow a = false) → t.ppu = s.ppu
  boot : t.boot = s.boot
  joy : t.joy = s.joy
  lastTimerUpdate : t.lastTimerUpdate = s.lastTimerUpdate
  faulted : t.faulted = s.faulted
  params : t.params = s.params
  joyInput : t.joyInput = s.joyInput

/-- What an instruction may change beside the memory it stores to: the 8-bit registers listed, the flags marked true, SP,
PC and the cycle count (`flow`), IME and Halted (`control`). -/
structure Footprint where
  regs : List Reg8
  flags : Flags
  sp : Bool
  flow : Bool
  control : Bool

/-- `i` changes nothing but what its footprint and the addresses it stores to, computed from the state before it, allow. PC
and the base cycles were moved by the decode procedure before `i` ran (30_encoding.md R134). -/
def Frame (fp : Footprint) (stored : State → List Word) (i : Instr) : Prop :=
  ∀ s t, exec i s = .next t →
    Untouched (stored s) s t ∧
    (∀ r, r ∉ fp.regs → t.reg r = s.reg r) ∧
    (fp.flags.z = false → t.flags.z = s.flags.z) ∧
    (fp.flags.n = false → t.flags.n = s.flags.n) ∧
    (fp.flags.h = false → t.flags.h = s.flags.h) ∧
    (fp.flags.c = false → t.flags.c = s.flags.c) ∧
    (fp.sp = false → t.sp = s.sp) ∧
    (fp.flow = false → t.pc = s.pc ∧ t.cycles = s.cycles) ∧
    (fp.control = false → t.ime = s.ime ∧ t.halted = s.halted)

/-- No flag may change. -/
def noFlags : Flags := { z := false, n := false, h := false, c := false }

/-- Every flag may change. -/
def allFlags : Flags := { z := true, n := true, h := true, c := true }

/-- The footprint of an instruction that changes registers and flags only. -/
def dataFootprint (regs : List Reg8) (flags : Flags) : Footprint :=
  { regs := regs, flags := flags, sp := false, flow := false, control := false }

/-- The 8-bit registers of a 16-bit one. -/
def pairRegs (rr : Reg16) : List Reg8 :=
  match rr with
  | .af => [.a]
  | .bc => [.b, .c]
  | .de => [.d, .e]
  | .hl => [.h, .l]
  | .sp => []

/-- The register an 8-bit operand is, if it is one. -/
def operandRegs (m : Operand) : List Reg8 :=
  match m with
  | .reg r => [r]
  | .indHl => []

/-- Where an 8-bit operand is stored, if it is the byte at HL. -/
def operandStores (m : Operand) (s : State) : List Word :=
  match m with
  | .reg _ => []
  | .indHl => [s.hl]

/-- The two addresses a push writes (41_load16_stack.md R230). -/
def pushStores (s : State) : List Word := [s.sp - 1, s.sp - 2]

/-! ## The invariant -/

/-- Every memory array is in canonical form and within its size (10_state.md R20). -/
structure ArraysWf (s : State) : Prop where
  rom : s.rom.wf ∧ s.rom.within 8388608
  boot : s.boot.wf ∧ s.boot.within 256
  xram : s.xram.wf ∧ s.xram.within 8192
  wram : s.wram.wf ∧ s.wram.within 8192
  oam : s.oam.wf ∧ s.oam.within 160
  io : s.io.wf ∧ s.io.within 128
  hram : s.hram.wf ∧ s.hram.within 127

/-- The machine between two Steps of a run: its arrays are well formed, IF's bits 7..5 and TAC's bits 7..3 are 1 "at all
times" (10_state.md R32, R34), the last timer update has seen every cycle charged (R35), and no fatal error has ended the
run (R41). -/
structure State.Inv (s : State) : Prop where
  arrays : ArraysWf s
  ifl : s.ifl &&& 0xE0 = 0xE0
  tac : s.tac &&& 0xF8 = 0xF8
  timer : s.lastTimerUpdate = s.cycles
  running : s.faulted = false

end Sys2Proof.Machine
end

