-- ==== Sys2Proof/Certificates/Slice0/Obligations.lean ====
section
/-! DEFINITION. The statements for the provers, by the numbered rules of spec/. `exec i s` is phase 7 of a Step: `s` is the
state after the decode procedure has moved PC past the instruction and charged its base cycles (30_encoding.md R134), which
`Encodes` states for each form. Throughout, the encodings and cycle counts of the instruction rules are the spec's decisions D2
and D3, and the flag formulas it does not quote from the source its decision D29, as the headers of 40_load8.md to 47_system.md
say (92_eei_decisions.md). -/

open Sys2Proof Sys2Proof.Machine

/-! ## Encoding and decode -/

/-- Decoding the encoding of any well-formed instruction gives it back, with every operand, whatever bytes follow (30_encoding.md
R130, R131, R134). -/
def Obligations.DecodeOfEncode : Prop :=
  ∀ (i : Instr) (rest : List Byte), i.wf = true → decode (encode i ++ rest) = .ok (i, rest)

/-- What decodes is well formed, and its encoding is the bytes it was decoded from; STOP's second byte, which is not examined
(30_encoding.md R139), is the one exception. Decoding fails only for want of bytes (R134, R136). -/
def Obligations.EncodeOfDecode : Prop :=
  (∀ (bytes rest : List Byte) (i : Instr), decode bytes = .ok (i, rest) →
    i.wf = true ∧ (i ≠ .stop → encode i ++ rest = bytes) ∧ (i = .stop → ∃ x, bytes = 0x10 :: x :: rest)) ∧
  (∀ bytes : List Byte, 3 ≤ bytes.length → ∃ i rest, decode bytes = .ok (i, rest))

/-- The decode tables: a primary slot has zero cost exactly for the eleven invalid opcodes and the prefix byte 0xCB, every
other slot of both tables has a length in {1, 2, 3} and a cost above 0 (30_encoding.md R122, R133), and an opcode decodes to
`invalid` exactly for the eleven. -/
def Obligations.InvalidSlotsExactly : Prop :=
  (∀ op : Byte, (primarySlot op).cycles = 0 ↔ op = 0xCB ∨ invalidSlots.contains op = true) ∧
  (∀ op : Byte, (primarySlot op).cycles ≠ 0 → (primarySlot op).length ∈ [1, 2, 3]) ∧
  (∀ op : Byte, (extendedSlot op).cycles ≠ 0 ∧ (extendedSlot op).length = 1) ∧
  (∀ b0 b1 b2 op : Byte, decode3 b0 b1 b2 = .invalid op ↔ b0 = op ∧ invalidSlots.contains op = true)

/-- A few words read off the spec's encodings: XOR A, LD HL,$1234, LD (HL),A, CALL $ABCD, RET, SWAP A, BIT 4,(HL), JR $FE. -/
def Obligations.SampleWordsDecode : Prop :=
  decode [0xAF] = .ok (.xorA, []) ∧ decode [0x21, 0x34, 0x12] = .ok (.ldHlD16 0x1234, []) ∧
  decode [0x77] = .ok (.ldIndHlA, []) ∧ decode [0xCD, 0xCD, 0xAB] = .ok (.callA16 0xABCD, []) ∧
  decode [0xC9] = .ok (.ret, []) ∧ decode [0xCB, 0x37] = .ok (.swapA, []) ∧
  decode [0xCB, 0x66] = .ok (.bit4IndHl, []) ∧ decode [0x18, 0xFE] = .ok (.jrR8 0xFE, [])

/-- The flags byte (10_state.md R24): Z, N, H, C in bits 7 to 4, bits 3..0 read 0, both conversions bit-exact. -/
def Obligations.FlagsBytePacks : Prop :=
  (∀ f : Flags, (packFlags f).toNat = 128 * f.z.toNat + 64 * f.n.toNat + 32 * f.h.toNat + 16 * f.c.toNat) ∧
  (∀ b : Byte, packFlags (unpackFlags b) = b &&& 0xF0) ∧
  (∀ f : Flags, unpackFlags (packFlags f) = f)

/-! ## The Step -/

/-- When no interrupt is taken and the CPU is not halted, a Step runs the instruction the bytes at PC decode to, PC moved past
it and its base cycles charged, and then the timer update; the machine's step adds the driver's PPU advance by the cycles
charged; a fatal error ends the run (60_exceptions.md R400, R405, R407; 30_encoding.md R134). That the step includes the
driver's advance, and none after a fault, is the model's choice (log entry 4), and so is a fault that carries the state left
(log entry 6). -/
def Obligations.StepRunsDecodedInstruction : Prop :=
  ∀ (s : State) (i : Instr) (rest : List Byte), s.faulted = false → s.beginStep.interruptCheck = none →
    s.beginStep.halted = false → decode s.beginStep.fetchBytes = .ok (i, rest) →
    let b := s.beginStep
    let ready := (b.setPc (b.pc + BitVec.ofNat 16 i.pcAdvance)).setCycles (b.cycles + i.baseCycles)
    (∀ t, exec i ready = .next t →
      step s = .next (t.timerUpdate.setPpu (ppuTicks (t.timerUpdate.cycles - s.cycles) t.timerUpdate.ppu))) ∧
    (∀ e, exec i ready = .fault e → step s = .fault (e.mapLeft fun left => left.timerUpdate.setFaulted true))

/-- The interrupt check (60_exceptions.md R414, R415; the bit positions are the spec's decision D16): nothing unless IME or Halted
is set; then the first of Timer, V-Blank and Joypad whose IF and IE bits are both 1; LCD-STAT and Serial (bits 1 and 3)
never. -/
def Obligations.InterruptCheckOrder : Prop :=
  ∀ s : State,
    (s.ime = false → s.halted = false → s.interruptCheck = none) ∧
    (s.ime = true ∨ s.halted = true →
      s.interruptCheck =
        if (s.ifl &&& s.ie) &&& 0x04 ≠ 0 then some .timer
        else if (s.ifl &&& s.ie) &&& 0x01 ≠ 0 then some .vblank
        else if (s.ifl &&& s.ie) &&& 0x10 ≠ 0 then some .joypad
        else none)

/-- Interrupt service (60_exceptions.md R416; the order of its writes is the spec's decision D33): the source's IF bit is
cleared, PC is pushed high byte first, PC goes to the vector, IME and Halted are cleared, 20 cycles are charged, and no
instruction runs; the timer update ends the Step. -/
def Obligations.InterruptServiced : Prop :=
  ∀ (s : State) (src : IntSource), s.faulted = false → s.beginStep.interruptCheck = some src →
    s.beginStep.ime = true →
    let b := s.beginStep
    let mask : Byte := match src with | .vblank => 0xFE | .timer => 0xFB | .joypad => 0xEF
    let vector : Word := match src with | .vblank => 0x0040 | .timer => 0x0050 | .joypad => 0x0060
    let pushed := ((b.setIf (b.ifl &&& mask)).memWrite (b.sp - 1) (hiByte b.pc)).memWrite (b.sp - 2) (loByte b.pc)
    coreStep s =
      .next (((((pushed.setSp (b.sp - 2)).setPc vector).setIme false).setHalted false).setCycles (b.cycles + 20)).timerUpdate

/-- A halted CPU. With no source to service or wake it, a Step charges 4 cycles and updates the timer (60_exceptions.md R422).
With IME = 0 and a source pending and enabled it wakes with IF unchanged (R417; HALT_WAKE_MODE is parameter P1): in `resume`
mode the same Step runs the next instruction (decision D34), in `dispatch_no_ack` mode PC is pushed and goes to the vector
for 20 cycles. -/
def Obligations.HaltedSteps : Prop :=
  (∀ s : State, s.faulted = false → s.beginStep.halted = true → s.beginStep.interruptCheck = none →
    coreStep s = .next (s.beginStep.setCycles (s.beginStep.cycles + 4)).timerUpdate) ∧
  (∀ (s : State) (src : IntSource), s.faulted = false → s.beginStep.ime = false →
    s.beginStep.interruptCheck = some src → s.params.haltWake = .resume →
    coreStep s = runInstruction exec (s.beginStep.setHalted false)) ∧
  (∀ (s : State) (src : IntSource), s.faulted = false → s.beginStep.ime = false →
    s.beginStep.interruptCheck = some src → s.params.haltWake = .dispatchNoAck →
    let b := s.beginStep
    let vector : Word := match src with | .vblank => 0x0040 | .timer => 0x0050 | .joypad => 0x0060
    let pushed := (b.memWrite (b.sp - 1) (hiByte b.pc)).memWrite (b.sp - 2) (loByte b.pc)
    coreStep s =
      .next ((((pushed.setSp (b.sp - 2)).setPc vector).setHalted false).setCycles (b.cycles + 20)).timerUpdate)

/-- A fatal error is terminal (60_exceptions.md R401, R405; decision D32): a Step that decodes an invalid slot answers the error
with the table, the opcode and its address; the state it leaves has the joypad sample and V-Blank latch done, PC still at the
opcode, no cycle charged, the timer update done and `faulted` set; and no Step runs from a faulted state. That the fault carries
the state left and that a faulted machine's step answers `alreadyFaulted` are the model's choices (log entry 6), and so is
that no PPU advance follows the fault (log entry 4). -/
def Obligations.FatalErrorEndsRun : Prop :=
  (∀ (s : State) (op : Byte), s.faulted = false → s.beginStep.interruptCheck = none → s.beginStep.halted = false →
    s.beginStep.memRead s.beginStep.pc = op → invalidSlots.contains op = true →
    step s = .fault (.opcodeNotFound .primary op s.beginStep.pc (s.beginStep.timerUpdate.setFaulted true)) ∧
      (s.beginStep.timerUpdate.setFaulted true).pc = s.pc ∧
      (s.beginStep.timerUpdate.setFaulted true).cycles = s.cycles) ∧
  (∀ s : State, s.faulted = true → step s = .fault .alreadyFaulted)

/-- The timer update (60_exceptions.md R430 to R433; decisions D24 to D26, D39): the divider advances by the cycles since the last
update; an enabled timer's TIMA takes at most one increment, when the divider's low bits and delta's, each below the period
of the TAC speed, sum to a period or more; an increment of 0xFF reloads TMA and requests the timer interrupt. -/
def Obligations.TimerUpdateRule : Prop :=
  ∀ s : State,
    (s.cycles ≤ s.lastTimerUpdate → s.timerUpdate = s) ∧
    (s.lastTimerUpdate < s.cycles →
      let delta := s.cycles - s.lastTimerUpdate
      let period := timerPeriod s.tac
      let carry : Bool := s.tac.getLsbD 2 && decide (period ≤ s.div.toNat % period + delta % period)
      s.timerUpdate =
        (((s.setDiv (BitVec.ofNat 16 (s.div.toNat + delta))).setTima
            (if carry then (if s.tima = 0xFF then s.tma else s.tima + 1) else s.tima)).setIf
            (if carry ∧ s.tima = 0xFF then s.ifl ||| 0x04 else s.ifl)).setLastTimerUpdate s.cycles)

/-- The first two phases of a Step (60_exceptions.md R420, R421; decisions D20, D38, D40): an absent snapshot changes nothing but
the stream; a snapshot replaces `joy` and requests the joypad interrupt if an input of a selected group is newly pressed
and IE bit 4 is 1; then the PPU's V-Blank flag is latched into IF bit 0 and cleared. -/
def Obligations.SampleAndLatch : Prop :=
  (∀ s : State, s.joyInput = [] → s.joypadSample = s) ∧
  (∀ (s : State) (later : List (Option Joypad)), s.joyInput = none :: later → s.joypadSample = s.setJoyInput later) ∧
  (∀ (s : State) (snap : Joypad) (later : List (Option Joypad)), s.joyInput = some snap :: later →
    s.joypadSample =
      ((s.setIf
        (if ((s.joypSel.getLsbD 0 = false ∧
                ((snap.right ∧ ¬s.joy.right) ∨ (snap.left ∧ ¬s.joy.left) ∨ (snap.up ∧ ¬s.joy.up) ∨
                  (snap.down ∧ ¬s.joy.down))) ∨
              (s.joypSel.getLsbD 1 = false ∧
                ((snap.a ∧ ¬s.joy.a) ∨ (snap.b ∧ ¬s.joy.b) ∨ (snap.select ∧ ¬s.joy.select) ∨
                  (snap.start ∧ ¬s.joy.start)))) ∧
            s.ie.getLsbD 4 = true
        then s.ifl ||| 0x10 else s.ifl)).setJoy snap).setJoyInput later) ∧
  (∀ s : State,
    s.vblankLatch =
      (s.setIf (if s.ppu.vblank = true then s.ifl ||| 0x01 else s.ifl)).setPpu { s.ppu with vblank := false }) ∧
  (∀ s : State, s.beginStep = s.joypadSample.vblankLatch)

/-- After a Step that returned n cycles the driver advances the PPU by n cycles (60_exceptions.md R407), and by the model's
choice (log entries 3 and 4) the machine's step includes that advance, which leaves an idle PPU as it is. -/
def Obligations.StepAdvancesPpu : Prop :=
  (∀ s t : State, coreStep s = .next t → step s = .next (t.setPpu (ppuTick^[t.cycles - s.cycles] t.ppu))) ∧
  (∀ p : PpuState, p.idle = false → ppuTick p = Config.ppuCycle p) ∧
  (∀ p : PpuState, p.idle = true → ppuTick p = p)

/-! ## Memory -/

/-- Plain storage reads back what was stored (20_memory.md R64, R67, R69 to R72, R75, R83, R84, R93, by decisions D10 to D13, D15
and D18), given arrays in canonical form. -/
def Obligations.StorageReadsBack : Prop :=
  ∀ (s : State) (a : Word) (v : Byte), ArraysWf s → s.isStorage a = true → (s.memWrite a v).memRead a = v

/-- A byte store leaves every read it does not reach, every register at another address and all state that is at no address,
the CPU's registers and flags among it, as it was (20_memory.md R64, R80, R99, R100; decisions D10 to D18). -/
def Obligations.StoreReachesOnly : Prop :=
  ∀ (s : State) (a : Word) (v : Byte),
    let t := s.memWrite a v
    Untouched [a] s t ∧ (∀ r : Reg8, t.reg r = s.reg r) ∧ t.flags = s.flags ∧ t.sp = s.sp ∧ t.pc = s.pc ∧ t.ime = s.ime ∧
      t.halted = s.halted ∧ t.cycles = s.cycles

/-- Echo RAM reads and stores at a - 0x2000 (20_memory.md R71, decision D12); the unusable region reads 0xFF and ignores stores
(R73, decision D14). -/
def Obligations.EchoAndUnusable : Prop :=
  (∀ (s : State) (a : Word) (v : Byte), 0xE000 ≤ a.toNat → a.toNat < 0xFE00 →
    s.memRead a = s.memRead (a - 0x2000) ∧ s.memWrite a v = s.memWrite (a - 0x2000) v) ∧
  (∀ (s : State) (a : Word) (v : Byte), 0xFEA0 ≤ a.toNat → a.toNat < 0xFF00 →
    s.memRead a = 0xFF ∧ s.memWrite a v = s)

/-- DIV reads the divider's upper byte (20_memory.md R85); a DIV write clears the divider and changes nothing else (R86, in part
the spec's derivation); TIMA and TMA writes store (R87, R88); an IF write forces bits 7..5 (R90). The addresses 0xFF05, 0xFF06
and 0xFF0F are the spec's decision D16 (R80). -/
def Obligations.TimerAndIfRegisters : Prop :=
  ∀ (s : State) (v : Byte),
    s.memRead 0xFF04 = BitVec.ofNat 8 (s.div.toNat / 256) ∧ s.memWrite 0xFF04 v = s.setDiv 0 ∧
    s.memRead 0xFF05 = s.tima ∧ s.memWrite 0xFF05 v = s.setTima v ∧
    s.memRead 0xFF06 = s.tma ∧ s.memWrite 0xFF06 v = s.setTma v ∧
    s.memRead 0xFF0F = s.ifl ∧ s.memWrite 0xFF0F v = s.setIf (v ||| 0xE0)

/-- The registers whose address or value is a decision of the spec (20_memory.md R76, R81 to R84, R89, R92; P3, P7, D16 to D19):
JOYP, SB with its capture, SC, TAC, the boot ROM latch and IE. -/
def Obligations.JoypadSerialLatchRegisters : Prop :=
  ∀ (s : State) (v : Byte),
    (s.memRead 0xFF00 &&& 0xF0 = 0xC0 ||| (s.joypSel.setWidth 8 <<< 4)) ∧
    ((s.memRead 0xFF00).getLsbD 0 =
      ((s.joypSel.getLsbD 0 || !s.joy.right) && (s.joypSel.getLsbD 1 || !s.joy.a))) ∧
    ((s.memRead 0xFF00).getLsbD 1 =
      ((s.joypSel.getLsbD 0 || !s.joy.left) && (s.joypSel.getLsbD 1 || !s.joy.b))) ∧
    ((s.memRead 0xFF00).getLsbD 2 =
      ((s.joypSel.getLsbD 0 || !s.joy.up) && (s.joypSel.getLsbD 1 || !s.joy.select))) ∧
    ((s.memRead 0xFF00).getLsbD 3 =
      ((s.joypSel.getLsbD 0 || !s.joy.down) && (s.joypSel.getLsbD 1 || !s.joy.start))) ∧
    s.memWrite 0xFF00 v = s.setJoypSel (BitVec.ofNat 2 (v.toNat / 16)) ∧
    s.memRead 0xFF01 = s.io.read 1 ∧
    s.memWrite 0xFF01 v =
      (s.setIo (s.io.write 1 v)).setSerialOut
        (if s.params.serialCapture = true then s.serialOut ++ [v] else s.serialOut) ∧
    s.memRead 0xFF02 = s.io.read 2 ∧ s.memWrite 0xFF02 v = s.setIo (s.io.write 2 v) ∧
    s.memRead 0xFF07 = s.tac ∧ s.memWrite 0xFF07 v = s.setTac (v ||| 0xF8) ∧
    s.memRead 0xFF50 = (if s.bootOff = true then 0xFF else 0xFE) ∧
    s.memWrite 0xFF50 v = (if v = 0 then s else s.setBootOff true) ∧
    s.memRead 0xFFFF = s.ie ∧
    s.memWrite 0xFFFF v = s.setIe (v ||| (if s.params.ieReadOr = .topThreeBits then 0xE0 else 0x00))

/-- The boot ROM overlay (20_memory.md R65): reads below 0x0100 come from the boot ROM buffer until the latch is set, and no step
clears the latch. That a store there goes to the ROM buffer, not seen under the overlay, and that the ROM buffer is read once
the latch is set (R66, R67) is the spec's decision D10 (90_conflicts.md C6). -/
def Obligations.BootOverlay : Prop :=
  (∀ (s : State) (a : Word) (v : Byte), a.toNat < 0x0100 → s.bootOff = false →
    s.memRead a = s.boot.read a.toNat ∧ (s.memWrite a v).memRead a = s.memRead a ∧
      s.memWrite a v = s.setRom (s.rom.write a.toNat v)) ∧
  (∀ (s : State) (a : Word), a.toNat < 0x0100 → s.bootOff = true → s.memRead a = s.rom.read a.toNat) ∧
  (∀ s t : State, s.bootOff = true → step s = .next t → t.bootOff = true)

/-! ## Loads -/

/-- LD between registers, immediates and the byte at HL (40_load8.md R200 to R204). -/
def Obligations.LoadRegisterForms : Prop :=
  (∀ dst r : Reg8, Encodes (Instr.ldReg dst r) [0x40 + 8 * (Operand.reg dst).code + (Operand.reg r).code] 4 ∧
    ∀ s : State, exec (Instr.ldReg dst r) s = .next (s.setReg dst (s.reg r))) ∧
  (∀ (dst : Reg8) (n : Byte), Encodes (Instr.ldImm dst n) [0x06 + 8 * (Operand.reg dst).code, n] 8 ∧
    ∀ s : State, exec (Instr.ldImm dst n) s = .next (s.setReg dst n)) ∧
  (∀ dst : Reg8, Encodes (Instr.ldFromHl dst) [0x46 + 8 * (Operand.reg dst).code] 8 ∧
    ∀ s : State, exec (Instr.ldFromHl dst) s = .next (s.setReg dst (s.memRead s.hl))) ∧
  (∀ r : Reg8, Encodes (Instr.ldToHl r) [0x70 + (Operand.reg r).code] 8 ∧
    ∀ s : State, exec (Instr.ldToHl r) s = .next (s.memWrite s.hl (s.reg r))) ∧
  (∀ n : Byte, Encodes (.ldIndHlD8 n) [0x36, n] 12 ∧
    ∀ s : State, exec (.ldIndHlD8 n) s = .next (s.memWrite s.hl n))

/-- LD of A through BC, DE and an absolute address (40_load8.md R205 to R210). -/
def Obligations.LoadAccumulatorForms : Prop :=
  Encodes .ldAIndBc [0x0A] 8 ∧ Encodes .ldAIndDe [0x1A] 8 ∧ Encodes .ldIndBcA [0x02] 8 ∧ Encodes .ldIndDeA [0x12] 8 ∧
  (∀ nn : Word, Encodes (.ldAIndA16 nn) [0xFA, loByte nn, hiByte nn] 16 ∧
    Encodes (.ldIndA16A nn) [0xEA, loByte nn, hiByte nn] 16) ∧
  (∀ s : State,
    exec .ldAIndBc s = .next (s.setReg .a (s.memRead (wordOf s.regs.b s.regs.c))) ∧
    exec .ldAIndDe s = .next (s.setReg .a (s.memRead (wordOf s.regs.d s.regs.e))) ∧
    exec .ldIndBcA s = .next (s.memWrite (wordOf s.regs.b s.regs.c) s.regs.a) ∧
    exec .ldIndDeA s = .next (s.memWrite (wordOf s.regs.d s.regs.e) s.regs.a) ∧
    (∀ nn : Word, exec (.ldAIndA16 nn) s = .next (s.setReg .a (s.memRead nn)) ∧
      exec (.ldIndA16A nn) s = .next (s.memWrite nn s.regs.a)))

/-- LDH and LD through C, at 0xFF00 plus an unsigned byte (40_load8.md R211 to R214). -/
def Obligations.LoadHighPageForms : Prop :=
  (∀ n : Byte, Encodes (.ldhAIndA8 n) [0xF0, n] 12 ∧ Encodes (.ldhIndA8A n) [0xE0, n] 12) ∧
  Encodes .ldAIndC [0xF2] 8 ∧ Encodes .ldIndCA [0xE2] 8 ∧
  (∀ (s : State) (n : Byte),
    exec (.ldhAIndA8 n) s = .next (s.setReg .a (s.memRead (BitVec.ofNat 16 (0xFF00 + n.toNat)))) ∧
    exec (.ldhIndA8A n) s = .next (s.memWrite (BitVec.ofNat 16 (0xFF00 + n.toNat)) s.regs.a)) ∧
  (∀ s : State,
    exec .ldAIndC s = .next (s.setReg .a (s.memRead (BitVec.ofNat 16 (0xFF00 + s.regs.c.toNat)))) ∧
    exec .ldIndCA s = .next (s.memWrite (BitVec.ofNat 16 (0xFF00 + s.regs.c.toNat)) s.regs.a))

/-- LD through HL with increment or decrement (40_load8.md R215 to R218): the access uses the old HL, which then moves by one,
wrapping. -/
def Obligations.LoadHlStepForms : Prop :=
  Encodes .ldIndHlIncA [0x22] 8 ∧ Encodes .ldIndHlDecA [0x32] 8 ∧ Encodes .ldAIndHlInc [0x2A] 8 ∧
  Encodes .ldAIndHlDec [0x3A] 8 ∧
  (∀ s : State,
    exec .ldIndHlIncA s = .next ((s.memWrite s.hl s.regs.a).setPair .hl (s.hl + 1)) ∧
    exec .ldIndHlDecA s = .next ((s.memWrite s.hl s.regs.a).setPair .hl (s.hl - 1)) ∧
    exec .ldAIndHlInc s = .next ((s.setReg .a (s.memRead s.hl)).setPair .hl (s.hl + 1)) ∧
    exec .ldAIndHlDec s = .next ((s.setReg .a (s.memRead s.hl)).setPair .hl (s.hl - 1)))

/-- LD rr,d16 and LD SP,HL (41_load16_stack.md R231, R233). -/
def Obligations.LoadPairForms : Prop :=
  (∀ (p : Pair) (nn : Word), Encodes (Instr.ldPairImm p nn) [0x01 + 16 * p.code, loByte nn, hiByte nn] 12 ∧
    ∀ s : State, exec (Instr.ldPairImm p nn) s = .next (s.setPair (pairReg p) nn) ∧
      (s.setPair (pairReg p) nn).pair (pairReg p) = nn) ∧
  Encodes .ldSpHl [0xF9] 8 ∧ (∀ s : State, exec .ldSpHl s = .next (s.setSp (wordOf s.regs.h s.regs.l)))

/-- LD (a16),SP (41_load16_stack.md R232): the low byte at a16, then the high byte at a16 + 1, wrapping (20_memory.md R96, the
spec's decisions D7 and D8). -/
def Obligations.StoreSpForm : Prop :=
  ∀ nn : Word, Encodes (.ldIndA16Sp nn) [0x08, loByte nn, hiByte nn] 20 ∧
    ∀ s : State, exec (.ldIndA16Sp nn) s = .next ((s.memWrite nn (loByte s.sp)).memWrite (nn + 1) (hiByte s.sp))

/-- LD HL,SP+r8 and ADD SP,r8 (41_load16_stack.md R234, 43_alu16.md R281; their flags are the spec's decision D30): the signed
sum modulo 2^16, Z = N = 0, H and C from the unsigned sum of the byte and SP's low byte. -/
def Obligations.SpDisplacementForms : Prop :=
  ∀ e : Byte, Encodes (.ldHlSpR8 e) [0xF8, e] 12 ∧ Encodes (.addSpR8 e) [0xE8, e] 16 ∧
    ∀ s : State,
      let sum := BitVec.ofInt 16 ((s.sp.toNat : Int) + e.toInt)
      let flags : Flags :=
        { z := false, n := false, h := decide (s.sp.toNat % 16 + e.toNat % 16 > 15)
          c := decide (s.sp.toNat % 256 + e.toNat > 255) }
      exec (.ldHlSpR8 e) s = .next ((s.setPair .hl sum).setFlags flags) ∧
      exec (.addSpR8 e) s = .next ((s.setSp sum).setFlags flags)

/-- PUSH rr and PUSH AF (41_load16_stack.md R235, R236): the high byte at SP - 1, then the low byte at SP - 2, which SP becomes;
AF's low byte is the packed flags. The order of the two bytes is the spec's decision D7. -/
def Obligations.PushForms : Prop :=
  ∀ p : StackPair, Encodes (Instr.push p) [0xC5 + 16 * p.code] 16 ∧
    ∀ s : State,
      let hi : Byte := match p with | .bc => s.regs.b | .de => s.regs.d | .hl => s.regs.h | .af => s.regs.a
      let lo : Byte :=
        match p with
        | .bc => s.regs.c
        | .de => s.regs.e
        | .hl => s.regs.l
        | .af =>
          BitVec.ofNat 8
            (128 * s.flags.z.toNat + 64 * s.flags.n.toNat + 32 * s.flags.h.toNat + 16 * s.flags.c.toNat)
      exec (Instr.push p) s = .next (((s.memWrite (s.sp - 1) hi).memWrite (s.sp - 2) lo).setSp (s.sp - 2))

/-- POP rr and POP AF (41_load16_stack.md R237, R238): the low byte at SP, the high byte at SP + 1, SP up by 2; POP AF takes Z, N,
H, C from bits 7 to 4 of the low byte. The order of the two bytes is the spec's decision D7. -/
def Obligations.PopForms : Prop :=
  ∀ p : StackPair, Encodes (Instr.pop p) [0xC1 + 16 * p.code] 12 ∧
    ∀ s : State,
      let lo := s.memRead s.sp
      let hi := s.memRead (s.sp + 1)
      let up := s.setSp (s.sp + 2)
      exec (Instr.pop p) s =
        .next
          (match p with
          | .bc => (up.setReg .b hi).setReg .c lo
          | .de => (up.setReg .d hi).setReg .e lo
          | .hl => (up.setReg .h hi).setReg .l lo
          | .af =>
            (up.setReg .a hi).setFlags
              { z := lo.getLsbD 7, n := lo.getLsbD 6, h := lo.getLsbD 5, c := lo.getLsbD 4 })

/-! ## 8-bit arithmetic and logic -/

/-- ADD and ADC (42_alu8.md R252, R253), every operand form. -/
def Obligations.AddForms : Prop :=
  ∀ src : Source,
    Encodes (Instr.alu .add src) (aluBytes .add src) (aluCost src) ∧
    Encodes (Instr.alu .adc src) (aluBytes .adc src) (aluCost src) ∧
    ∀ s : State,
      let a := s.regs.a.toNat
      let v := (s.src8 src).toNat
      let c := s.flags.c.toNat
      exec (Instr.alu .add src) s =
        .next ((s.setReg .a (BitVec.ofNat 8 (a + v))).setFlags
          { z := decide ((a + v) % 256 = 0), n := false, h := decide (a % 16 + v % 16 > 15), c := decide (a + v > 255) }) ∧
      exec (Instr.alu .adc src) s =
        .next ((s.setReg .a (BitVec.ofNat 8 (a + v + c))).setFlags
          { z := decide ((a + v + c) % 256 = 0), n := false, h := decide (a % 16 + v % 16 + c > 15)
            c := decide (a + v + c > 255) })

/-- SUB, SBC and CP (42_alu8.md R254, R255, R259), every operand form; CP keeps A. -/
def Obligations.SubtractForms : Prop :=
  ∀ src : Source,
    Encodes (Instr.alu .sub src) (aluBytes .sub src) (aluCost src) ∧
    Encodes (Instr.alu .sbc src) (aluBytes .sbc src) (aluCost src) ∧
    Encodes (Instr.alu .cp src) (aluBytes .cp src) (aluCost src) ∧
    ∀ s : State,
      let a := s.regs.a
      let v := s.src8 src
      let c : Byte := if s.flags.c then 1 else 0
      exec (Instr.alu .sub src) s =
        .next ((s.setReg .a (a - v)).setFlags
          { z := a - v == 0, n := true, h := decide (a.toNat % 16 < v.toNat % 16), c := decide (a.toNat < v.toNat) }) ∧
      exec (Instr.alu .sbc src) s =
        .next ((s.setReg .a (a - v - c)).setFlags
          { z := a - v - c == 0, n := true, h := decide (a.toNat % 16 < v.toNat % 16 + c.toNat)
            c := decide (a.toNat < v.toNat + c.toNat) }) ∧
      exec (Instr.alu .cp src) s =
        .next (s.setFlags
          { z := a == v, n := true, h := decide (a.toNat % 16 < v.toNat % 16), c := decide (a.toNat < v.toNat) })

/-- AND, XOR and OR (42_alu8.md R256 to R258), every operand form. -/
def Obligations.LogicForms : Prop :=
  ∀ src : Source,
    Encodes (Instr.alu .and src) (aluBytes .and src) (aluCost src) ∧
    Encodes (Instr.alu .xor src) (aluBytes .xor src) (aluCost src) ∧
    Encodes (Instr.alu .or src) (aluBytes .or src) (aluCost src) ∧
    ∀ s : State,
      let a := s.regs.a
      let v := s.src8 src
      exec (Instr.alu .and src) s =
        .next ((s.setReg .a (a &&& v)).setFlags { z := a &&& v == 0, n := false, h := true, c := false }) ∧
      exec (Instr.alu .xor src) s =
        .next ((s.setReg .a (a ^^^ v)).setFlags { z := a ^^^ v == 0, n := false, h := false, c := false }) ∧
      exec (Instr.alu .or src) s =
        .next ((s.setReg .a (a ||| v)).setFlags { z := a ||| v == 0, n := false, h := false, c := false })

/-- INC and DEC of a register or of the byte at HL (42_alu8.md R260 to R263, with the helpers of R251): H is the carry out of bit 3,
or the borrow into it, and C is unchanged. -/
def Obligations.IncDecForms : Prop :=
  ∀ m : Operand,
    Encodes (Instr.inc8 m) [0x04 + 8 * m.code] (match m with | .reg _ => 4 | .indHl => 12) ∧
    Encodes (Instr.dec8 m) [0x05 + 8 * m.code] (match m with | .reg _ => 4 | .indHl => 12) ∧
    ∀ s : State,
      let v := match m with | .reg r => s.reg r | .indHl => s.memRead s.hl
      let put := fun w : Byte => match m with | .reg r => s.setReg r w | .indHl => s.memWrite s.hl w
      exec (Instr.inc8 m) s =
        .next ((put (v + 1)).setFlags { z := v == 0xFF, n := false, h := v &&& 0x0F == 0x0F, c := s.flags.c }) ∧
      exec (Instr.dec8 m) s =
        .next ((put (v - 1)).setFlags { z := v == 0x01, n := true, h := v &&& 0x0F == 0x00, c := s.flags.c })

/-- DAA (42_alu8.md R264; its flags are the spec's decision D29). After an addition 0x60 and 0x06 are added, C set with the first;
after a subtraction they are subtracted and C is kept; N is kept and H cleared. -/
def Obligations.DecimalAdjust : Prop :=
  Encodes .daa [0x27] 4 ∧
  (∀ s : State, s.flags.n = false →
    let high := s.flags.c = true ∨ s.regs.a.toNat > 0x99
    let low := s.flags.h = true ∨ s.regs.a.toNat % 16 > 9
    let r : Byte := s.regs.a + (if high then 0x60 else 0) + (if low then 0x06 else 0)
    exec .daa s =
      .next ((s.setReg .a r).setFlags { z := r == 0, n := false, h := false, c := decide high })) ∧
  (∀ s : State, s.flags.n = true →
    let r : Byte :=
      s.regs.a - (if s.flags.c = true then 0x60 else 0) - (if s.flags.h = true then 0x06 else 0)
    exec .daa s =
      .next ((s.setReg .a r).setFlags { z := r == 0, n := true, h := false, c := s.flags.c }))

/-- CPL, SCF and CCF (42_alu8.md R265 to R267). -/
def Obligations.FlagOperations : Prop :=
  Encodes .cpl [0x2F] 4 ∧ Encodes .scf [0x37] 4 ∧ Encodes .ccf [0x3F] 4 ∧
  (∀ s : State,
    exec .cpl s =
      .next ((s.setReg .a (0xFF - s.regs.a)).setFlags { z := s.flags.z, n := true, h := true, c := s.flags.c }) ∧
    exec .scf s = .next (s.setFlags { z := s.flags.z, n := false, h := false, c := true }) ∧
    exec .ccf s = .next (s.setFlags { z := s.flags.z, n := false, h := false, c := !s.flags.c }))

/-! ## 16-bit arithmetic -/

/-- ADD HL,rr (43_alu16.md R280): carries out of bits 11 and 15, Z unchanged; INC rr and DEC rr wrap and write no flag (R282, R283). -/
def Obligations.SixteenBitArithmetic : Prop :=
  ∀ p : Pair,
    Encodes (Instr.addHlPair p) [0x09 + 16 * p.code] 8 ∧ Encodes (Instr.incPair p) [0x03 + 16 * p.code] 8 ∧
    Encodes (Instr.decPair p) [0x0B + 16 * p.code] 8 ∧
    ∀ s : State,
      let v := s.pair (pairReg p)
      exec (Instr.addHlPair p) s =
        .next ((s.setPair .hl (s.hl + v)).setFlags
          { z := s.flags.z, n := false, h := decide (s.hl.toNat % 4096 + v.toNat % 4096 > 4095)
            c := decide (s.hl.toNat + v.toNat > 65535) }) ∧
      exec (Instr.incPair p) s = .next (s.setPair (pairReg p) (BitVec.ofNat 16 (v.toNat + 1))) ∧
      exec (Instr.decPair p) s = .next (s.setPair (pairReg p) (BitVec.ofInt 16 ((v.toNat : Int) - 1)))

/-! ## Rotates, shifts and bits -/

/-- RLCA, RRCA, RLA and RRA (44_rotate_shift.md R290 to R293): Z is always 0, for RRCA and RRA by the spec's decision D29. -/
def Obligations.AccumulatorRotates : Prop :=
  Encodes .rlca [0x07] 4 ∧ Encodes .rrca [0x0F] 4 ∧ Encodes .rla [0x17] 4 ∧ Encodes .rra [0x1F] 4 ∧
  (∀ s : State,
    let a := s.regs.a.toNat
    let c := s.flags.c.toNat
    let done := fun (r : Nat) (out : Bool) =>
      (s.setReg .a (BitVec.ofNat 8 r)).setFlags { z := false, n := false, h := false, c := out }
    exec .rlca s = .next (done (2 * a + a / 128) (decide (128 ≤ a))) ∧
    exec .rrca s = .next (done (a / 2 + 128 * (a % 2)) (decide (a % 2 = 1))) ∧
    exec .rla s = .next (done (2 * a + c) (decide (128 ≤ a))) ∧
    exec .rra s = .next (done (a / 2 + 128 * c) (decide (a % 2 = 1))))

/-- The rotates and shifts of the extended table, on registers and on the byte at HL (44_rotate_shift.md R294 to R302). -/
def Obligations.ExtendedRotates : Prop :=
  ∀ m : Operand,
    (∀ op : RotOp, Encodes (Instr.rot op m) [0xCB, 8 * op.code + m.code] (operandCost m)) ∧
    ∀ s : State,
      let v := (match m with | .reg r => s.reg r | .indHl => s.memRead s.hl).toNat
      let c := s.flags.c.toNat
      let done := fun (r : Nat) (out : Bool) =>
        (match m with
          | .reg q => s.setReg q (BitVec.ofNat 8 r)
          | .indHl => s.memWrite s.hl (BitVec.ofNat 8 r)).setFlags
          { z := decide (r % 256 = 0), n := false, h := false, c := out }
      exec (Instr.rot .rlc m) s = .next (done (2 * v + v / 128) (decide (128 ≤ v))) ∧
      exec (Instr.rot .rrc m) s = .next (done (v / 2 + 128 * (v % 2)) (decide (v % 2 = 1))) ∧
      exec (Instr.rot .rl m) s = .next (done (2 * v + c) (decide (128 ≤ v))) ∧
      exec (Instr.rot .rr m) s = .next (done (v / 2 + 128 * c) (decide (v % 2 = 1))) ∧
      exec (Instr.rot .sla m) s = .next (done (2 * v) (decide (128 ≤ v))) ∧
      exec (Instr.rot .sra m) s = .next (done (v / 2 + 128 * (v / 128)) (decide (v % 2 = 1))) ∧
      exec (Instr.rot .swap m) s = .next (done (16 * (v % 16) + v / 16) false) ∧
      exec (Instr.rot .srl m) s = .next (done (v / 2) (decide (v % 2 = 1)))

/-- BIT b,m (45_bit.md R310, R311): Z is the complement of the bit, N = 0, H = 1, C unchanged, the operand unchanged. -/
def Obligations.BitTests : Prop :=
  ∀ (b : Fin 8) (m : Operand),
    Encodes (Instr.bit b m) [0xCB, 0x40 + 8 * BitVec.ofNat 8 b.val + m.code]
      (match m with | .reg _ => 8 | .indHl => 12) ∧
    ∀ s : State,
      let v := match m with | .reg r => s.reg r | .indHl => s.memRead s.hl
      exec (Instr.bit b m) s =
        .next (s.setFlags { z := decide (v.toNat / 2 ^ b.val % 2 = 0), n := false, h := true, c := s.flags.c })

/-- RES b,m and SET b,m (45_bit.md R312, R313): one bit of the operand, no flag. -/
def Obligations.BitWrites : Prop :=
  ∀ (b : Fin 8) (m : Operand),
    Encodes (Instr.res b m) [0xCB, 0x80 + 8 * BitVec.ofNat 8 b.val + m.code] (operandCost m) ∧
    Encodes (Instr.set b m) [0xCB, 0xC0 + 8 * BitVec.ofNat 8 b.val + m.code] (operandCost m) ∧
    ∀ s : State,
      let v := (match m with | .reg r => s.reg r | .indHl => s.memRead s.hl).toNat
      let bit := v / 2 ^ b.val % 2
      let put := fun w : Nat =>
        match m with
        | .reg r => s.setReg r (BitVec.ofNat 8 w)
        | .indHl => s.memWrite s.hl (BitVec.ofNat 8 w)
      exec (Instr.res b m) s = .next (put (v - bit * 2 ^ b.val)) ∧
      exec (Instr.set b m) s = .next (put (v + (1 - bit) * 2 ^ b.val))

/-! ## Control transfer -/

/-- JP and JR, unconditional (46_control.md R321, R323, R324): the displacement is signed and counts from the post-fetch PC. -/
def Obligations.Jumps : Prop :=
  (∀ nn : Word, Encodes (.jpA16 nn) [0xC3, loByte nn, hiByte nn] 16) ∧ Encodes .jpIndHl [0xE9] 4 ∧
  (∀ e : Byte, Encodes (.jrR8 e) [0x18, e] 12) ∧
  (∀ s : State,
    exec .jpIndHl s = .next (s.setPc (wordOf s.regs.h s.regs.l)) ∧
    (∀ nn : Word, exec (.jpA16 nn) s = .next (s.setPc nn)) ∧
    (∀ e : Byte, exec (.jrR8 e) s = .next (s.setPc (BitVec.ofInt 16 ((s.pc.toNat : Int) + e.toInt)))))

/-- JP cc and JR cc (46_control.md R320, R322, R325): taken, PC and 4 more cycles, the spec's decision D4; not taken, nothing. -/
def Obligations.ConditionalJumps : Prop :=
  (∀ (cc : Cond) (nn : Word), Encodes (Instr.jpCond cc nn) [0xC2 + 8 * cc.code, loByte nn, hiByte nn] 12) ∧
  (∀ (cc : Cond) (e : Byte), Encodes (Instr.jrCond cc e) [0x20 + 8 * cc.code, e] 8) ∧
  (∀ (s : State) (cc : Cond) (nn : Word),
    (Taken cc s → exec (Instr.jpCond cc nn) s = .next ((s.setPc nn).setCycles (s.cycles + 4))) ∧
    (¬Taken cc s → exec (Instr.jpCond cc nn) s = .next s)) ∧
  (∀ (s : State) (cc : Cond) (e : Byte),
    (Taken cc s → exec (Instr.jrCond cc e) s =
      .next ((s.setPc (BitVec.ofInt 16 ((s.pc.toNat : Int) + e.toInt))).setCycles (s.cycles + 4))) ∧
    (¬Taken cc s → exec (Instr.jrCond cc e) s = .next s))

/-- CALL and RST push the post-fetch PC, high byte first, and jump; RET and RETI pop it, RETI setting IME (46_control.md R326, R328,
R330, R331). The push order is the spec's decision D7, and that RETI's IME = 1 is at once its decision D21. -/
def Obligations.CallsAndReturns : Prop :=
  (∀ nn : Word, Encodes (.callA16 nn) [0xCD, loByte nn, hiByte nn] 24) ∧ Encodes .ret [0xC9] 16 ∧ Encodes .reti [0xD9] 16 ∧
  (∀ y : Fin 8, Encodes (Instr.rst y) [0xC7 + 8 * BitVec.ofNat 8 y.val] 16) ∧
  (∀ s : State,
    let pushed := ((s.memWrite (s.sp - 1) (hiByte s.pc)).memWrite (s.sp - 2) (loByte s.pc)).setSp (s.sp - 2)
    let popped := (s.setSp (s.sp + 2)).setPc (wordOf (s.memRead (s.sp + 1)) (s.memRead s.sp))
    (∀ nn : Word, exec (.callA16 nn) s = .next (pushed.setPc nn)) ∧
    (∀ y : Fin 8, exec (Instr.rst y) s = .next (pushed.setPc (BitVec.ofNat 16 (8 * y.val)))) ∧
    exec .ret s = .next popped ∧
    exec .reti s = .next (popped.setIme true))

/-- CALL cc and RET cc (46_control.md R327, R329; the 12 extra cycles of a taken one are decision D4). -/
def Obligations.ConditionalCallsAndReturns : Prop :=
  (∀ (cc : Cond) (nn : Word), Encodes (Instr.callCond cc nn) [0xC4 + 8 * cc.code, loByte nn, hiByte nn] 12) ∧
  (∀ cc : Cond, Encodes (Instr.retCond cc) [0xC0 + 8 * cc.code] 8) ∧
  (∀ (s : State) (cc : Cond),
    let pushed := ((s.memWrite (s.sp - 1) (hiByte s.pc)).memWrite (s.sp - 2) (loByte s.pc)).setSp (s.sp - 2)
    let popped := (s.setSp (s.sp + 2)).setPc (wordOf (s.memRead (s.sp + 1)) (s.memRead s.sp))
    (Taken cc s →
      (∀ nn : Word, exec (Instr.callCond cc nn) s = .next ((pushed.setPc nn).setCycles (s.cycles + 12))) ∧
      exec (Instr.retCond cc) s = .next (popped.setCycles (s.cycles + 12))) ∧
    (¬Taken cc s →
      (∀ nn : Word, exec (Instr.callCond cc nn) s = .next s) ∧ exec (Instr.retCond cc) s = .next s))

/-- `CALL a16` then `RET` returns to the instruction after the CALL with SP as before it, where the stack is plain storage (the
source's round trip, 46_control.md). -/
def Obligations.CallThenReturn : Prop :=
  ∀ (nn : Word) (s : State), ArraysWf s → s.isStorage (s.sp - 1) = true → s.isStorage (s.sp - 2) = true →
    ∃ t u, exec (.callA16 nn) s = .next t ∧ exec .ret t = .next u ∧ t.pc = nn ∧ u.pc = s.pc ∧ u.sp = s.sp

/-! ## System instructions, faults and the prefix byte -/

/-- NOP, HALT, DI and EI (47_system.md R340, R341, R343, R344); that EI takes effect at once is the spec's decision D21. -/
def Obligations.SystemOperations : Prop :=
  Encodes .nop [0x00] 4 ∧ Encodes .halt [0x76] 4 ∧ Encodes .di [0xF3] 4 ∧ Encodes .ei [0xFB] 4 ∧
  (∀ s : State,
    exec .nop s = .next s ∧ exec .halt s = .next (s.setHalted true) ∧ exec .di s = .next (s.setIme false) ∧
    exec .ei s = .next (s.setIme true))

/-- STOP (47_system.md R342): two bytes, the second not examined, 4 cycles; by STOP_MODE a no-op, or the fatal error that names
the opcode's address, two bytes before the post-fetch PC. That the fault carries the state is the model's choice (log entry
6). -/
def Obligations.StopByMode : Prop :=
  Encodes .stop [0x10, 0x00] 4 ∧ (∀ (x : Byte) (rest : List Byte), decode (0x10 :: x :: rest) = .ok (.stop, rest)) ∧
  (∀ s : State, s.params.stopMode = .nop2 → exec .stop s = .next s) ∧
  (∀ s : State, s.params.stopMode = .fault → exec .stop s = .fault (.stopUnsupported (s.pc - 2) s))

/-- An instruction faults exactly when it is an invalid slot, which raises OpcodeNotFound with its opcode at the PC, not moved
(60_exceptions.md R401, decision D32), or STOP in `fault` mode, which raises StopUnsupported with the opcode's address (R404);
no other exception exists (R406), and no instruction is refused. That a fault carries the state is the model's choice (log
entry 6). -/
def Obligations.FaultsExactly : Prop :=
  (∀ (op : Byte) (s : State), exec (.invalid op) s = .fault (.opcodeNotFound .primary op s.pc s) ∧
    Instr.pcAdvance (.invalid op) = 0 ∧ Instr.baseCycles (.invalid op) = 0) ∧
  (∀ (i : Instr) (s : State),
    ((∃ t, exec i s = .next t) ∧ (∀ op, i ≠ .invalid op) ∧ ¬(i = .stop ∧ s.params.stopMode = .fault)) ∨
      (∃ op, i = .invalid op ∧ exec i s = .fault (.opcodeNotFound .primary op s.pc s)) ∨
      (i = .stop ∧ s.params.stopMode = .fault ∧ exec i s = .fault (.stopUnsupported (s.pc - 2) s)))

/-- The byte 0xCB as an instruction of its own (47_system.md R345, log entry 8): PC being past it, the extended opcode is the
byte at PC; PC moves past that too, its whole cost is charged, and the instruction that 0xCB and that byte decode to runs, as
it does when the decoder reads both bytes, and completes. -/
def Obligations.PrefixRunsExtended : Prop :=
  Instr.pcAdvance .prefixCb = 1 ∧ Instr.baseCycles .prefixCb = 0 ∧
  (∀ s : State, ∃ i, decode [0xCB, s.memRead s.pc] = .ok (i, []) ∧
    exec .prefixCb s = exec i ((s.setPc (s.pc + 1)).setCycles (s.cycles + i.baseCycles)) ∧
    ∃ t, exec .prefixCb s = .next t)

/-! ## Frames -/

/-- The 8-bit loads change their destination, HL for the stepping forms, and the stored byte, and nothing else (40_load8.md: "No
instruction in this file writes a flag"). -/
def Obligations.FrameOfLoads : Prop :=
  (∀ dst r : Reg8, Frame (dataFootprint [dst] noFlags) (fun _ => []) (Instr.ldReg dst r)) ∧
  (∀ (dst : Reg8) (n : Byte), Frame (dataFootprint [dst] noFlags) (fun _ => []) (Instr.ldImm dst n)) ∧
  (∀ dst : Reg8, Frame (dataFootprint [dst] noFlags) (fun _ => []) (Instr.ldFromHl dst)) ∧
  (∀ r : Reg8, Frame (dataFootprint [] noFlags) (fun s => [s.hl]) (Instr.ldToHl r)) ∧
  (∀ n : Byte, Frame (dataFootprint [] noFlags) (fun s => [s.hl]) (.ldIndHlD8 n)) ∧
  Frame (dataFootprint [.a] noFlags) (fun _ => []) .ldAIndBc ∧
  Frame (dataFootprint [.a] noFlags) (fun _ => []) .ldAIndDe ∧
  Frame (dataFootprint [.a] noFlags) (fun _ => []) .ldAIndC ∧
  (∀ nn : Word, Frame (dataFootprint [.a] noFlags) (fun _ => []) (.ldAIndA16 nn)) ∧
  (∀ n : Byte, Frame (dataFootprint [.a] noFlags) (fun _ => []) (.ldhAIndA8 n)) ∧
  Frame (dataFootprint [] noFlags) (fun s => [s.pair .bc]) .ldIndBcA ∧
  Frame (dataFootprint [] noFlags) (fun s => [s.pair .de]) .ldIndDeA ∧
  Frame (dataFootprint [] noFlags) (fun s => [highPage (s.reg .c)]) .ldIndCA ∧
  (∀ nn : Word, Frame (dataFootprint [] noFlags) (fun _ => [nn]) (.ldIndA16A nn)) ∧
  (∀ n : Byte, Frame (dataFootprint [] noFlags) (fun _ => [highPage n]) (.ldhIndA8A n)) ∧
  Frame (dataFootprint [.h, .l] noFlags) (fun s => [s.hl]) .ldIndHlIncA ∧
  Frame (dataFootprint [.h, .l] noFlags) (fun s => [s.hl]) .ldIndHlDecA ∧
  Frame (dataFootprint [.a, .h, .l] noFlags) (fun _ => []) .ldAIndHlInc ∧
  Frame (dataFootprint [.a, .h, .l] noFlags) (fun _ => []) .ldAIndHlDec

/-- The arithmetic, logic and accumulator instructions change their destination, the flags their rules list and, for a (HL) form,
the byte at HL, and nothing else (42_alu8.md R252 to R267, 43_alu16.md R280 to R283, 44_rotate_shift.md R290 to R293). -/
def Obligations.FrameOfArithmetic : Prop :=
  (∀ (op : AluOp) (src : Source),
    Frame (dataFootprint (match op with | .cp => [] | _ => [.a]) allFlags) (fun _ => []) (Instr.alu op src)) ∧
  (∀ m : Operand, Frame (dataFootprint (operandRegs m) { allFlags with c := false }) (operandStores m) (Instr.inc8 m)) ∧
  (∀ m : Operand, Frame (dataFootprint (operandRegs m) { allFlags with c := false }) (operandStores m) (Instr.dec8 m)) ∧
  Frame (dataFootprint [.a] { allFlags with n := false }) (fun _ => []) .daa ∧
  Frame (dataFootprint [.a] { allFlags with z := false, c := false }) (fun _ => []) .cpl ∧
  Frame (dataFootprint [] { allFlags with z := false }) (fun _ => []) .scf ∧
  Frame (dataFootprint [] { allFlags with z := false }) (fun _ => []) .ccf ∧
  Frame (dataFootprint [.a] allFlags) (fun _ => []) .rlca ∧
  Frame (dataFootprint [.a] allFlags) (fun _ => []) .rrca ∧
  Frame (dataFootprint [.a] allFlags) (fun _ => []) .rla ∧
  Frame (dataFootprint [.a] allFlags) (fun _ => []) .rra ∧
  (∀ p : Pair, Frame (dataFootprint [.h, .l] { allFlags with z := false }) (fun _ => []) (Instr.addHlPair p)) ∧
  (∀ p : Pair,
    Frame { dataFootprint (pairRegs (pairReg p)) noFlags with sp := decide (p = .sp) } (fun _ => []) (Instr.incPair p)) ∧
  (∀ p : Pair,
    Frame { dataFootprint (pairRegs (pairReg p)) noFlags with sp := decide (p = .sp) } (fun _ => []) (Instr.decPair p)) ∧
  (∀ e : Byte, Frame { dataFootprint [] allFlags with sp := true } (fun _ => []) (.addSpR8 e))

/-- The extended table: the operand, the flags of the rule (none for RES and SET, all but C for BIT, which writes no operand) and
nothing else (44_rotate_shift.md R294 to R302, 45_bit.md R310 to R313). -/
def Obligations.FrameOfExtended : Prop :=
  (∀ (op : RotOp) (m : Operand), Frame (dataFootprint (operandRegs m) allFlags) (operandStores m) (Instr.rot op m)) ∧
  (∀ (b : Fin 8) (m : Operand),
    Frame (dataFootprint [] { allFlags with c := false }) (fun _ => []) (Instr.bit b m)) ∧
  (∀ (b : Fin 8) (m : Operand), Frame (dataFootprint (operandRegs m) noFlags) (operandStores m) (Instr.res b m)) ∧
  (∀ (b : Fin 8) (m : Operand), Frame (dataFootprint (operandRegs m) noFlags) (operandStores m) (Instr.set b m))

/-- The 16-bit loads and the stack: the destination, SP, the two stored bytes, the flags for POP AF and LD HL,SP+r8, and nothing
else (41_load16_stack.md R230 to R238). -/
def Obligations.FrameOfStackAndPairs : Prop :=
  (∀ (p : Pair) (nn : Word),
    Frame { dataFootprint (pairRegs (pairReg p)) noFlags with sp := decide (p = .sp) } (fun _ => [])
      (Instr.ldPairImm p nn)) ∧
  (∀ nn : Word, Frame (dataFootprint [] noFlags) (fun _ => [nn, nn + 1]) (.ldIndA16Sp nn)) ∧
  Frame { dataFootprint [] noFlags with sp := true } (fun _ => []) .ldSpHl ∧
  (∀ e : Byte, Frame (dataFootprint [.h, .l] allFlags) (fun _ => []) (.ldHlSpR8 e)) ∧
  (∀ p : StackPair, Frame { dataFootprint [] noFlags with sp := true } pushStores (Instr.push p)) ∧
  (∀ p : StackPair,
    Frame { dataFootprint (pairRegs (stackPairReg p)) (if p = .af then allFlags else noFlags) with sp := true }
      (fun _ => []) (Instr.pop p))

/-- Control transfer and the system instructions: PC, the cycle count, SP and the stack, IME and Halted where the rule says so, and
nothing else (46_control.md: "No instruction in this file writes a flag"; 47_system.md R340 to R344). A call not taken stores
nothing. -/
def Obligations.FrameOfControl : Prop :=
  (∀ nn : Word, Frame { dataFootprint [] noFlags with flow := true } (fun _ => []) (.jpA16 nn)) ∧
  Frame { dataFootprint [] noFlags with flow := true } (fun _ => []) .jpIndHl ∧
  (∀ e : Byte, Frame { dataFootprint [] noFlags with flow := true } (fun _ => []) (.jrR8 e)) ∧
  (∀ (cc : Cond) (nn : Word), Frame { dataFootprint [] noFlags with flow := true } (fun _ => []) (Instr.jpCond cc nn)) ∧
  (∀ (cc : Cond) (e : Byte), Frame { dataFootprint [] noFlags with flow := true } (fun _ => []) (Instr.jrCond cc e)) ∧
  (∀ nn : Word, Frame { dataFootprint [] noFlags with sp := true, flow := true } pushStores (.callA16 nn)) ∧
  (∀ y : Fin 8, Frame { dataFootprint [] noFlags with sp := true, flow := true } pushStores (Instr.rst y)) ∧
  (∀ (cc : Cond) (nn : Word),
    Frame { dataFootprint [] noFlags with sp := true, flow := true }
      (fun s => if condHolds cc s.flags then pushStores s else []) (Instr.callCond cc nn)) ∧
  Frame { dataFootprint [] noFlags with sp := true, flow := true } (fun _ => []) .ret ∧
  (∀ cc : Cond, Frame { dataFootprint [] noFlags with sp := true, flow := true } (fun _ => []) (Instr.retCond cc)) ∧
  Frame { dataFootprint [] noFlags with sp := true, flow := true, control := true } (fun _ => []) .reti ∧
  Frame (dataFootprint [] noFlags) (fun _ => []) .nop ∧ Frame (dataFootprint [] noFlags) (fun _ => []) .stop ∧
  Frame { dataFootprint [] noFlags with control := true } (fun _ => []) .halt ∧
  Frame { dataFootprint [] noFlags with control := true } (fun _ => []) .di ∧
  Frame { dataFootprint [] noFlags with control := true } (fun _ => []) .ei

/-! ## The whole machine -/

/-- Every step from a state that meets the invariant leads to one that meets it: arrays in canonical form and within their sizes,
IF's and TAC's forced bits, the timer caught up, not faulted. -/
def Obligations.StepKeepsInvariant : Prop :=
  ∀ s t : State, s.Inv → step s = .next t → t.Inv

/-- The machine after construction meets the invariant. -/
def Obligations.ResetMeetsInvariant : Prop :=
  State.reset.Inv

/-- IME is changed by EI, DI and RETI alone, and Halted by HALT alone, among all instructions (10_state.md R29, R30); no
instruction changes the joypad state, the parameters or the boot ROM buffer. -/
def Obligations.ControlBitsWrittenOnlyBy : Prop :=
  ∀ (i : Instr) (s t : State), exec i s = .next t →
    (t.ime ≠ s.ime → i = .ei ∨ i = .di ∨ i = .reti) ∧ (t.halted ≠ s.halted → i = .halt) ∧
    t.joy = s.joy ∧ t.params = s.params ∧ t.boot = s.boot ∧ t.joyInput = s.joyInput ∧ t.faulted = s.faulted ∧
    t.lastTimerUpdate = s.lastTimerUpdate

/-- Every Step that completes charges from 4 to 24 cycles (70_reset_and_hazards.md R515, the costs of 30_encoding.md R130 to R132,
60_exceptions.md R416, R422), and leaves the timer caught up with the cycle count. -/
def Obligations.StepCharges : Prop :=
  ∀ s t : State, coreStep s = .next t → s.cycles + 4 ≤ t.cycles ∧ t.cycles ≤ s.cycles + 24 ∧
    (s.lastTimerUpdate ≤ s.cycles → t.lastTimerUpdate = t.cycles)

/-- Along a step the serial capture only grows, and not at all while capture is off (10_state.md R38, 20_memory.md R83); the host's
joypad stream loses its first entry (log entry 5); the parameters stay (log entry 1). -/
def Obligations.SerialGrowsAndInputsAdvance : Prop :=
  ∀ s t : State, step s = .next t →
    (∃ out, t.serialOut = s.serialOut ++ out ∧ (s.params.serialCapture = false → out = [])) ∧
    t.joyInput = s.joyInput.tail ∧ t.params = s.params

/-- Construction and simulated boot (70_reset_and_hazards.md R500, R503; the values are the spec's decisions D27 and D28): every
field of the record of 10_state.md R20. The PPU's initial state is parameter P4 (log entry 2), and a byte no cell lists is the
0x00 of construction (log entry 11). -/
def Obligations.ResetAndSimulatedBoot : Prop :=
  (∀ r : Reg8, State.reset.reg r = 0x00) ∧ packFlags State.reset.flags = 0x00 ∧ State.reset.sp = 0x0000 ∧
  State.reset.pc = 0x0000 ∧ State.reset.ime = false ∧ State.reset.halted = false ∧ State.reset.ie = 0x00 ∧
  State.reset.ifl = 0xE0 ∧ State.reset.div = 0 ∧ State.reset.tima = 0x00 ∧ State.reset.tma = 0x00 ∧
  State.reset.tac = 0xF8 ∧ State.reset.joypSel = 0 ∧ State.reset.bootOff = false ∧ State.reset.cycles = 0 ∧
  State.reset.lastTimerUpdate = 0 ∧ State.reset.serialOut = [] ∧ State.reset.faulted = false ∧
  State.reset.joy = { right := false, left := false, up := false, down := false, a := false, b := false, select := false,
                      start := false } ∧
  State.reset.ppu = Config.ppuInit ∧
  (∀ i : Nat, State.reset.rom.read i = 0x00 ∧ State.reset.boot.read i = 0x00 ∧ State.reset.xram.read i = 0x00 ∧
    State.reset.wram.read i = 0x00 ∧ State.reset.oam.read i = 0x00 ∧ State.reset.io.read i = 0x00 ∧
    State.reset.hram.read i = 0x00) ∧
  (∀ a : Word, State.reset.isStorage a = true ∨ a.toNat < 0x0100 → State.reset.memRead a = 0x00) ∧
  (∀ s : State,
    let t := s.simulateBoot
    t.pair .af = 0x01B0 ∧ t.pair .bc = 0x0013 ∧ t.pair .de = 0x00D8 ∧ t.pair .hl = 0x014D ∧ t.sp = 0xFFFE ∧
    t.pc = 0x0100 ∧ t.bootOff = true ∧
    t = ((((s.setRegs t.regs).setFlags t.flags).setSp t.sp).setPc t.pc).setBootOff true)

/-- LoadBootROM takes exactly 256 bytes and LoadROM at most 8 MiB without the color-only mark, whose refusals change nothing
(70_reset_and_hazards.md R501, R502, decision D41); what was loaded is read back at its addresses; and a saved register
block restores its registers and nothing else (R505, decision D42). -/
def Obligations.LoadingAndSaving : Prop :=
  (∀ (s : State) (bytes : List Byte), bytes.length = 256 →
    ∃ t, s.loadBootRom bytes = .ok t ∧ t = s.setBoot t.boot ∧
      (∀ (a : Word) (h : a.toNat < bytes.length), s.bootOff = false → t.memRead a = bytes[a.toNat])) ∧
  (∀ (s : State) (bytes : List Byte), bytes.length ≠ 256 → s.loadBootRom bytes = .error .bootRomSize) ∧
  (∀ (s : State) (bytes : List Byte), bytes.length ≤ 8388608 → bytes[0x0143]? ≠ some 0xC0 →
    ∃ t, s.loadRom bytes = .ok t ∧ t = s.setRom t.rom ∧
      (∀ (i : Nat) (h : i < bytes.length), t.rom.read i = bytes[i]) ∧
      (∀ i : Nat, bytes.length ≤ i → t.rom.read i = s.rom.read i)) ∧
  (∀ (s : State) (bytes : List Byte), 8388608 < bytes.length → s.loadRom bytes = .error .imageTooLong) ∧
  (∀ (s : State) (bytes : List Byte), bytes.length ≤ 8388608 → bytes[0x0143]? = some 0xC0 →
    s.loadRom bytes = .error .colorOnly) ∧
  (∀ s t : State,
    s.restoreRegisters t.saveRegisters =
      (((s.setRegs t.regs).setFlags t.flags).setPc t.pc).setSp t.sp)
end

