-- ==== Sys2Proof/Laws/Memory.lean ====
section
/-! SUPPORT. Memory arrays: what a read sees of a write, and that every operation keeps the canonical form and the size. -/

namespace Sys2Proof.Machine

theorem Memory.read_write_other (m : Memory) {a b : Nat} (v : Byte) (h : a ≠ b) :
    (m.write a v).read b = m.read b := by
  induction m with
  | nil => by_cases hv : v = unlistedByte <;> simp [Memory.write, Memory.read, hv, h]
  | cons x rest ih =>
    obtain ⟨k, w⟩ := x
    simp only [Memory.write]
    split
    · by_cases hv : v = unlistedByte <;> simp [Memory.read, hv, h]
    · split
      · subst a
        by_cases hv : v = unlistedByte <;> simp [Memory.read, hv, h]
      · simp [Memory.read, ih]

theorem Memory.read_eq_unlisted (m : Memory) (a : Nat) (h : ∀ x ∈ m, x.1 ≠ a) : m.read a = unlistedByte := by
  induction m with
  | nil => rfl
  | cons x rest ih =>
    have hx := h x (by simp)
    simp [Memory.read, hx, ih (fun y hy => h y (by simp [hy]))]

theorem Memory.read_write_same (m : Memory) (a : Nat) (v : Byte) (hm : m.wf) : (m.write a v).read a = v := by
  induction m with
  | nil => by_cases hv : v = unlistedByte <;> simp [Memory.write, Memory.read, hv]
  | cons x rest ih =>
    obtain ⟨k, w⟩ := x
    obtain ⟨hs, hd⟩ := hm
    rw [List.pairwise_cons] at hs
    have hrest : Memory.wf rest := ⟨hs.2, fun y hy => hd y (by simp [hy])⟩
    simp only [Memory.write]
    split
    · rename_i hlt
      by_cases hv : v = unlistedByte
      · rw [if_pos hv, hv]
        apply Memory.read_eq_unlisted
        intro y hy
        rcases List.mem_cons.mp hy with rfl | hy
        · exact fun e => by simp at e; omega
        · have := hs.1 y hy; simp at this; omega
      · simp [Memory.read, hv]
    · split
      · rename_i heq
        subst heq
        by_cases hv : v = unlistedByte
        · rw [if_pos hv, hv]
          apply Memory.read_eq_unlisted
          intro y hy
          have := hs.1 y hy; simp at this; omega
        · simp [Memory.read, hv]
      · rename_i hne
        simp [Memory.read, ih hrest, Ne.symm hne]

/-- The cells of a write: the one written, if it is listed, and cells of the array. -/
theorem Memory.mem_write {m : Memory} {a : Nat} {v : Byte} {x : Host.Cell} (h : x ∈ m.write a v) :
    (x = (a, v) ∧ v ≠ unlistedByte) ∨ x ∈ m := by
  induction m with
  | nil =>
    by_cases hv : v = unlistedByte <;> simp [Memory.write, hv] at h ⊢
    exact h
  | cons y rest ih =>
    obtain ⟨k, w⟩ := y
    simp only [Memory.write] at h
    split at h
    · by_cases hv : v = unlistedByte
      · rw [if_pos hv] at h; exact .inr h
      · rw [if_neg hv] at h
        rcases List.mem_cons.mp h with rfl | h
        · exact .inl ⟨rfl, hv⟩
        · exact .inr h
    · split at h
      · by_cases hv : v = unlistedByte
        · rw [if_pos hv] at h; exact .inr (List.mem_cons_of_mem _ h)
        · rw [if_neg hv] at h
          rcases List.mem_cons.mp h with rfl | h
          · exact .inl ⟨rfl, hv⟩
          · exact .inr (List.mem_cons_of_mem _ h)
      · rcases List.mem_cons.mp h with rfl | h
        · exact .inr (by simp)
        · rcases ih h with h | h
          · exact .inl h
          · exact .inr (List.mem_cons_of_mem _ h)

theorem Memory.write_wf {m : Memory} (a : Nat) (v : Byte) (hm : m.wf) : (m.write a v).wf := by
  refine ⟨?_, fun x hx => ?_⟩
  · induction m with
    | nil => by_cases hv : v = unlistedByte <;> simp [Memory.write, hv]
    | cons y rest ih =>
      obtain ⟨k, w⟩ := y
      obtain ⟨hs, hd⟩ := hm
      have hs' := List.pairwise_cons.mp hs
      simp only [Memory.write]
      split
      · rename_i hlt
        by_cases hv : v = unlistedByte
        · rw [if_pos hv]; exact hs
        · rw [if_neg hv]
          refine List.pairwise_cons.mpr ⟨fun x hx => ?_, hs⟩
          rcases List.mem_cons.mp hx with rfl | hx
          · exact hlt
          · exact Nat.lt_trans hlt (hs'.1 x hx)
      · split
        · rename_i heq
          subst heq
          by_cases hv : v = unlistedByte
          · rw [if_pos hv]; exact hs'.2
          · rw [if_neg hv]; exact List.pairwise_cons.mpr ⟨hs'.1, hs'.2⟩
        · rename_i hnlt hne
          refine List.pairwise_cons.mpr ⟨fun x hx => ?_, ih ⟨hs'.2, fun y hy => hd y (by simp [hy])⟩⟩
          rcases Memory.mem_write hx with ⟨rfl, -⟩ | hx
          · simp only; omega
          · exact hs'.1 x hx
  · rcases Memory.mem_write hx with ⟨rfl, hv⟩ | hx
    · exact hv
    · exact hm.2 x hx

theorem Memory.write_within {m : Memory} {size a : Nat} (v : Byte) (hm : m.within size) (ha : a < size) :
    (m.write a v).within size := by
  intro x hx
  rcases Memory.mem_write hx with ⟨rfl, -⟩ | hx
  · exact ha
  · exact hm x hx

theorem Memory.mem_ofBytes {start : Nat} {bytes : List Byte} {x : Host.Cell} (h : x ∈ Memory.ofBytes start bytes) :
    start ≤ x.1 ∧ x.1 < start + bytes.length ∧ x.2 ≠ unlistedByte := by
  induction bytes generalizing start with
  | nil => simp [Memory.ofBytes] at h
  | cons v rest ih =>
    simp only [Memory.ofBytes] at h
    have tail : x ∈ Memory.ofBytes (start + 1) rest →
        start ≤ x.1 ∧ x.1 < start + (v :: rest).length ∧ x.2 ≠ unlistedByte := fun hx => by
      have := ih hx
      simp only [List.length_cons]
      exact ⟨by omega, by omega, this.2.2⟩
    split at h
    · exact tail h
    · rename_i hv
      rcases List.mem_cons.mp h with rfl | h
      · exact ⟨Nat.le_refl _, by simp, hv⟩
      · exact tail h

theorem Memory.ofBytes_wf (start : Nat) (bytes : List Byte) : (Memory.ofBytes start bytes).wf := by
  refine ⟨?_, fun x hx => (Memory.mem_ofBytes hx).2.2⟩
  induction bytes generalizing start with
  | nil => simp [Memory.ofBytes]
  | cons v rest ih =>
    simp only [Memory.ofBytes]
    split
    · exact ih _
    · exact List.pairwise_cons.mpr ⟨fun x hx => (Memory.mem_ofBytes hx).1, ih _⟩

theorem Memory.ofBytes_within (bytes : List Byte) : (Memory.ofBytes 0 bytes).within bytes.length := fun x hx => by
  have := Memory.mem_ofBytes hx
  omega

/-- Loading a list of bytes: the byte at an offset below its length, the start being 0. -/
theorem Memory.read_ofBytes (start i : Nat) (bytes : List Byte) (h : i < bytes.length) :
    (Memory.ofBytes start bytes).read (start + i) = bytes[i] := by
  induction bytes generalizing start i with
  | nil => simp at h
  | cons v rest ih =>
    cases i with
    | zero =>
      by_cases hv : v = unlistedByte
      · simp only [Memory.ofBytes, hv, if_true, List.getElem_cons_zero]
        exact Memory.read_eq_unlisted _ _ fun x hx => by
          have := (Memory.mem_ofBytes hx).1
          omega
      · simp [Memory.ofBytes, hv, Memory.read]
    | succ j =>
      have hj : j < rest.length := by simpa using h
      have key := ih (start + 1) j hj
      rw [show start + (j + 1) = start + 1 + j by omega]
      by_cases hv : v = unlistedByte
      · simpa [Memory.ofBytes, hv] using key
      · simp only [Memory.ofBytes, hv, if_false, Memory.read, List.getElem_cons_succ]
        rw [if_neg (by omega)]
        exact key

theorem Memory.copyIn_wf {m : Memory} (bytes : List Byte) (hm : m.wf) : (m.copyIn bytes).wf := by
  refine ⟨List.pairwise_append.mpr ⟨(Memory.ofBytes_wf 0 bytes).1, hm.1.filter _, fun x hx y hy => ?_⟩, fun x hx => ?_⟩
  · have h1 := Memory.ofBytes_within bytes x hx
    have h2 := (List.mem_filter.mp hy).2
    simp at h2
    omega
  · rcases List.mem_append.mp hx with hx | hx
    · exact (Memory.ofBytes_wf 0 bytes).2 x hx
    · exact hm.2 x (List.mem_filter.mp hx).1

theorem Memory.copyIn_within {m : Memory} {size : Nat} (bytes : List Byte) (hm : m.within size)
    (h : bytes.length ≤ size) : (m.copyIn bytes).within size := by
  intro x hx
  rcases List.mem_append.mp hx with hx | hx
  · have := Memory.ofBytes_within bytes x hx
    omega
  · exact hm x (List.mem_filter.mp hx).1

end Sys2Proof.Machine
end

