-- ==== Sys2Proof/Laws/State.lean ====
section
/-! SUPPORT. One lemma per field per update of the state, and how the register accessors see each update. -/

namespace Sys2Proof.Machine

/-! ### setRegs -/

@[simp] theorem setRegs_regs (s : State) (v : Regs) : (s.setRegs v).regs = v := rfl
@[simp] theorem setRegs_flags (s : State) (v : Regs) : (s.setRegs v).flags = s.flags := rfl
@[simp] theorem setRegs_sp (s : State) (v : Regs) : (s.setRegs v).sp = s.sp := rfl
@[simp] theorem setRegs_pc (s : State) (v : Regs) : (s.setRegs v).pc = s.pc := rfl
@[simp] theorem setRegs_ime (s : State) (v : Regs) : (s.setRegs v).ime = s.ime := rfl
@[simp] theorem setRegs_halted (s : State) (v : Regs) : (s.setRegs v).halted = s.halted := rfl
@[simp] theorem setRegs_ie (s : State) (v : Regs) : (s.setRegs v).ie = s.ie := rfl
@[simp] theorem setRegs_ifl (s : State) (v : Regs) : (s.setRegs v).ifl = s.ifl := rfl
@[simp] theorem setRegs_div (s : State) (v : Regs) : (s.setRegs v).div = s.div := rfl
@[simp] theorem setRegs_tima (s : State) (v : Regs) : (s.setRegs v).tima = s.tima := rfl
@[simp] theorem setRegs_tma (s : State) (v : Regs) : (s.setRegs v).tma = s.tma := rfl
@[simp] theorem setRegs_tac (s : State) (v : Regs) : (s.setRegs v).tac = s.tac := rfl
@[simp] theorem setRegs_joypSel (s : State) (v : Regs) : (s.setRegs v).joypSel = s.joypSel := rfl
@[simp] theorem setRegs_joy (s : State) (v : Regs) : (s.setRegs v).joy = s.joy := rfl
@[simp] theorem setRegs_bootOff (s : State) (v : Regs) : (s.setRegs v).bootOff = s.bootOff := rfl
@[simp] theorem setRegs_cycles (s : State) (v : Regs) : (s.setRegs v).cycles = s.cycles := rfl
@[simp] theorem setRegs_lastTimerUpdate (s : State) (v : Regs) : (s.setRegs v).lastTimerUpdate = s.lastTimerUpdate := rfl
@[simp] theorem setRegs_serialOut (s : State) (v : Regs) : (s.setRegs v).serialOut = s.serialOut := rfl
@[simp] theorem setRegs_rom (s : State) (v : Regs) : (s.setRegs v).rom = s.rom := rfl
@[simp] theorem setRegs_boot (s : State) (v : Regs) : (s.setRegs v).boot = s.boot := rfl
@[simp] theorem setRegs_ppu (s : State) (v : Regs) : (s.setRegs v).ppu = s.ppu := rfl
@[simp] theorem setRegs_xram (s : State) (v : Regs) : (s.setRegs v).xram = s.xram := rfl
@[simp] theorem setRegs_wram (s : State) (v : Regs) : (s.setRegs v).wram = s.wram := rfl
@[simp] theorem setRegs_oam (s : State) (v : Regs) : (s.setRegs v).oam = s.oam := rfl
@[simp] theorem setRegs_io (s : State) (v : Regs) : (s.setRegs v).io = s.io := rfl
@[simp] theorem setRegs_hram (s : State) (v : Regs) : (s.setRegs v).hram = s.hram := rfl
@[simp] theorem setRegs_faulted (s : State) (v : Regs) : (s.setRegs v).faulted = s.faulted := rfl
@[simp] theorem setRegs_joyInput (s : State) (v : Regs) : (s.setRegs v).joyInput = s.joyInput := rfl
@[simp] theorem setRegs_params (s : State) (v : Regs) : (s.setRegs v).params = s.params := rfl
@[simp] theorem setRegs_setRegs (s : State) (v w : Regs) : (s.setRegs v).setRegs w = s.setRegs w := rfl

/-! ### setFlags -/

@[simp] theorem setFlags_regs (s : State) (v : Flags) : (s.setFlags v).regs = s.regs := rfl
@[simp] theorem setFlags_flags (s : State) (v : Flags) : (s.setFlags v).flags = v := rfl
@[simp] theorem setFlags_sp (s : State) (v : Flags) : (s.setFlags v).sp = s.sp := rfl
@[simp] theorem setFlags_pc (s : State) (v : Flags) : (s.setFlags v).pc = s.pc := rfl
@[simp] theorem setFlags_ime (s : State) (v : Flags) : (s.setFlags v).ime = s.ime := rfl
@[simp] theorem setFlags_halted (s : State) (v : Flags) : (s.setFlags v).halted = s.halted := rfl
@[simp] theorem setFlags_ie (s : State) (v : Flags) : (s.setFlags v).ie = s.ie := rfl
@[simp] theorem setFlags_ifl (s : State) (v : Flags) : (s.setFlags v).ifl = s.ifl := rfl
@[simp] theorem setFlags_div (s : State) (v : Flags) : (s.setFlags v).div = s.div := rfl
@[simp] theorem setFlags_tima (s : State) (v : Flags) : (s.setFlags v).tima = s.tima := rfl
@[simp] theorem setFlags_tma (s : State) (v : Flags) : (s.setFlags v).tma = s.tma := rfl
@[simp] theorem setFlags_tac (s : State) (v : Flags) : (s.setFlags v).tac = s.tac := rfl
@[simp] theorem setFlags_joypSel (s : State) (v : Flags) : (s.setFlags v).joypSel = s.joypSel := rfl
@[simp] theorem setFlags_joy (s : State) (v : Flags) : (s.setFlags v).joy = s.joy := rfl
@[simp] theorem setFlags_bootOff (s : State) (v : Flags) : (s.setFlags v).bootOff = s.bootOff := rfl
@[simp] theorem setFlags_cycles (s : State) (v : Flags) : (s.setFlags v).cycles = s.cycles := rfl
@[simp] theorem setFlags_lastTimerUpdate (s : State) (v : Flags) : (s.setFlags v).lastTimerUpdate = s.lastTimerUpdate := rfl
@[simp] theorem setFlags_serialOut (s : State) (v : Flags) : (s.setFlags v).serialOut = s.serialOut := rfl
@[simp] theorem setFlags_rom (s : State) (v : Flags) : (s.setFlags v).rom = s.rom := rfl
@[simp] theorem setFlags_boot (s : State) (v : Flags) : (s.setFlags v).boot = s.boot := rfl
@[simp] theorem setFlags_ppu (s : State) (v : Flags) : (s.setFlags v).ppu = s.ppu := rfl
@[simp] theorem setFlags_xram (s : State) (v : Flags) : (s.setFlags v).xram = s.xram := rfl
@[simp] theorem setFlags_wram (s : State) (v : Flags) : (s.setFlags v).wram = s.wram := rfl
@[simp] theorem setFlags_oam (s : State) (v : Flags) : (s.setFlags v).oam = s.oam := rfl
@[simp] theorem setFlags_io (s : State) (v : Flags) : (s.setFlags v).io = s.io := rfl
@[simp] theorem setFlags_hram (s : State) (v : Flags) : (s.setFlags v).hram = s.hram := rfl
@[simp] theorem setFlags_faulted (s : State) (v : Flags) : (s.setFlags v).faulted = s.faulted := rfl
@[simp] theorem setFlags_joyInput (s : State) (v : Flags) : (s.setFlags v).joyInput = s.joyInput := rfl
@[simp] theorem setFlags_params (s : State) (v : Flags) : (s.setFlags v).params = s.params := rfl
@[simp] theorem setFlags_setFlags (s : State) (v w : Flags) : (s.setFlags v).setFlags w = s.setFlags w := rfl
@[simp] theorem setFlags_reg (s : State) (v : Flags) (r : Reg8) : (s.setFlags v).reg r = s.reg r := by cases r <;> rfl
@[simp] theorem setFlags_hl (s : State) (v : Flags) : (s.setFlags v).hl = s.hl := rfl

/-! ### setSp -/

@[simp] theorem setSp_regs (s : State) (v : Word) : (s.setSp v).regs = s.regs := rfl
@[simp] theorem setSp_flags (s : State) (v : Word) : (s.setSp v).flags = s.flags := rfl
@[simp] theorem setSp_sp (s : State) (v : Word) : (s.setSp v).sp = v := rfl
@[simp] theorem setSp_pc (s : State) (v : Word) : (s.setSp v).pc = s.pc := rfl
@[simp] theorem setSp_ime (s : State) (v : Word) : (s.setSp v).ime = s.ime := rfl
@[simp] theorem setSp_halted (s : State) (v : Word) : (s.setSp v).halted = s.halted := rfl
@[simp] theorem setSp_ie (s : State) (v : Word) : (s.setSp v).ie = s.ie := rfl
@[simp] theorem setSp_ifl (s : State) (v : Word) : (s.setSp v).ifl = s.ifl := rfl
@[simp] theorem setSp_div (s : State) (v : Word) : (s.setSp v).div = s.div := rfl
@[simp] theorem setSp_tima (s : State) (v : Word) : (s.setSp v).tima = s.tima := rfl
@[simp] theorem setSp_tma (s : State) (v : Word) : (s.setSp v).tma = s.tma := rfl
@[simp] theorem setSp_tac (s : State) (v : Word) : (s.setSp v).tac = s.tac := rfl
@[simp] theorem setSp_joypSel (s : State) (v : Word) : (s.setSp v).joypSel = s.joypSel := rfl
@[simp] theorem setSp_joy (s : State) (v : Word) : (s.setSp v).joy = s.joy := rfl
@[simp] theorem setSp_bootOff (s : State) (v : Word) : (s.setSp v).bootOff = s.bootOff := rfl
@[simp] theorem setSp_cycles (s : State) (v : Word) : (s.setSp v).cycles = s.cycles := rfl
@[simp] theorem setSp_lastTimerUpdate (s : State) (v : Word) : (s.setSp v).lastTimerUpdate = s.lastTimerUpdate := rfl
@[simp] theorem setSp_serialOut (s : State) (v : Word) : (s.setSp v).serialOut = s.serialOut := rfl
@[simp] theorem setSp_rom (s : State) (v : Word) : (s.setSp v).rom = s.rom := rfl
@[simp] theorem setSp_boot (s : State) (v : Word) : (s.setSp v).boot = s.boot := rfl
@[simp] theorem setSp_ppu (s : State) (v : Word) : (s.setSp v).ppu = s.ppu := rfl
@[simp] theorem setSp_xram (s : State) (v : Word) : (s.setSp v).xram = s.xram := rfl
@[simp] theorem setSp_wram (s : State) (v : Word) : (s.setSp v).wram = s.wram := rfl
@[simp] theorem setSp_oam (s : State) (v : Word) : (s.setSp v).oam = s.oam := rfl
@[simp] theorem setSp_io (s : State) (v : Word) : (s.setSp v).io = s.io := rfl
@[simp] theorem setSp_hram (s : State) (v : Word) : (s.setSp v).hram = s.hram := rfl
@[simp] theorem setSp_faulted (s : State) (v : Word) : (s.setSp v).faulted = s.faulted := rfl
@[simp] theorem setSp_joyInput (s : State) (v : Word) : (s.setSp v).joyInput = s.joyInput := rfl
@[simp] theorem setSp_params (s : State) (v : Word) : (s.setSp v).params = s.params := rfl
@[simp] theorem setSp_setSp (s : State) (v w : Word) : (s.setSp v).setSp w = s.setSp w := rfl
@[simp] theorem setSp_reg (s : State) (v : Word) (r : Reg8) : (s.setSp v).reg r = s.reg r := by cases r <;> rfl
@[simp] theorem setSp_hl (s : State) (v : Word) : (s.setSp v).hl = s.hl := rfl

/-! ### setPc -/

@[simp] theorem setPc_regs (s : State) (v : Word) : (s.setPc v).regs = s.regs := rfl
@[simp] theorem setPc_flags (s : State) (v : Word) : (s.setPc v).flags = s.flags := rfl
@[simp] theorem setPc_sp (s : State) (v : Word) : (s.setPc v).sp = s.sp := rfl
@[simp] theorem setPc_pc (s : State) (v : Word) : (s.setPc v).pc = v := rfl
@[simp] theorem setPc_ime (s : State) (v : Word) : (s.setPc v).ime = s.ime := rfl
@[simp] theorem setPc_halted (s : State) (v : Word) : (s.setPc v).halted = s.halted := rfl
@[simp] theorem setPc_ie (s : State) (v : Word) : (s.setPc v).ie = s.ie := rfl
@[simp] theorem setPc_ifl (s : State) (v : Word) : (s.setPc v).ifl = s.ifl := rfl
@[simp] theorem setPc_div (s : State) (v : Word) : (s.setPc v).div = s.div := rfl
@[simp] theorem setPc_tima (s : State) (v : Word) : (s.setPc v).tima = s.tima := rfl
@[simp] theorem setPc_tma (s : State) (v : Word) : (s.setPc v).tma = s.tma := rfl
@[simp] theorem setPc_tac (s : State) (v : Word) : (s.setPc v).tac = s.tac := rfl
@[simp] theorem setPc_joypSel (s : State) (v : Word) : (s.setPc v).joypSel = s.joypSel := rfl
@[simp] theorem setPc_joy (s : State) (v : Word) : (s.setPc v).joy = s.joy := rfl
@[simp] theorem setPc_bootOff (s : State) (v : Word) : (s.setPc v).bootOff = s.bootOff := rfl
@[simp] theorem setPc_cycles (s : State) (v : Word) : (s.setPc v).cycles = s.cycles := rfl
@[simp] theorem setPc_lastTimerUpdate (s : State) (v : Word) : (s.setPc v).lastTimerUpdate = s.lastTimerUpdate := rfl
@[simp] theorem setPc_serialOut (s : State) (v : Word) : (s.setPc v).serialOut = s.serialOut := rfl
@[simp] theorem setPc_rom (s : State) (v : Word) : (s.setPc v).rom = s.rom := rfl
@[simp] theorem setPc_boot (s : State) (v : Word) : (s.setPc v).boot = s.boot := rfl
@[simp] theorem setPc_ppu (s : State) (v : Word) : (s.setPc v).ppu = s.ppu := rfl
@[simp] theorem setPc_xram (s : State) (v : Word) : (s.setPc v).xram = s.xram := rfl
@[simp] theorem setPc_wram (s : State) (v : Word) : (s.setPc v).wram = s.wram := rfl
@[simp] theorem setPc_oam (s : State) (v : Word) : (s.setPc v).oam = s.oam := rfl
@[simp] theorem setPc_io (s : State) (v : Word) : (s.setPc v).io = s.io := rfl
@[simp] theorem setPc_hram (s : State) (v : Word) : (s.setPc v).hram = s.hram := rfl
@[simp] theorem setPc_faulted (s : State) (v : Word) : (s.setPc v).faulted = s.faulted := rfl
@[simp] theorem setPc_joyInput (s : State) (v : Word) : (s.setPc v).joyInput = s.joyInput := rfl
@[simp] theorem setPc_params (s : State) (v : Word) : (s.setPc v).params = s.params := rfl
@[simp] theorem setPc_setPc (s : State) (v w : Word) : (s.setPc v).setPc w = s.setPc w := rfl
@[simp] theorem setPc_reg (s : State) (v : Word) (r : Reg8) : (s.setPc v).reg r = s.reg r := by cases r <;> rfl
@[simp] theorem setPc_pair (s : State) (v : Word) (rr : Reg16) : (s.setPc v).pair rr = s.pair rr := by cases rr <;> rfl
@[simp] theorem setPc_hl (s : State) (v : Word) : (s.setPc v).hl = s.hl := rfl

/-! ### setIme -/

@[simp] theorem setIme_regs (s : State) (v : Bool) : (s.setIme v).regs = s.regs := rfl
@[simp] theorem setIme_flags (s : State) (v : Bool) : (s.setIme v).flags = s.flags := rfl
@[simp] theorem setIme_sp (s : State) (v : Bool) : (s.setIme v).sp = s.sp := rfl
@[simp] theorem setIme_pc (s : State) (v : Bool) : (s.setIme v).pc = s.pc := rfl
@[simp] theorem setIme_ime (s : State) (v : Bool) : (s.setIme v).ime = v := rfl
@[simp] theorem setIme_halted (s : State) (v : Bool) : (s.setIme v).halted = s.halted := rfl
@[simp] theorem setIme_ie (s : State) (v : Bool) : (s.setIme v).ie = s.ie := rfl
@[simp] theorem setIme_ifl (s : State) (v : Bool) : (s.setIme v).ifl = s.ifl := rfl
@[simp] theorem setIme_div (s : State) (v : Bool) : (s.setIme v).div = s.div := rfl
@[simp] theorem setIme_tima (s : State) (v : Bool) : (s.setIme v).tima = s.tima := rfl
@[simp] theorem setIme_tma (s : State) (v : Bool) : (s.setIme v).tma = s.tma := rfl
@[simp] theorem setIme_tac (s : State) (v : Bool) : (s.setIme v).tac = s.tac := rfl
@[simp] theorem setIme_joypSel (s : State) (v : Bool) : (s.setIme v).joypSel = s.joypSel := rfl
@[simp] theorem setIme_joy (s : State) (v : Bool) : (s.setIme v).joy = s.joy := rfl
@[simp] theorem setIme_bootOff (s : State) (v : Bool) : (s.setIme v).bootOff = s.bootOff := rfl
@[simp] theorem setIme_cycles (s : State) (v : Bool) : (s.setIme v).cycles = s.cycles := rfl
@[simp] theorem setIme_lastTimerUpdate (s : State) (v : Bool) : (s.setIme v).lastTimerUpdate = s.lastTimerUpdate := rfl
@[simp] theorem setIme_serialOut (s : State) (v : Bool) : (s.setIme v).serialOut = s.serialOut := rfl
@[simp] theorem setIme_rom (s : State) (v : Bool) : (s.setIme v).rom = s.rom := rfl
@[simp] theorem setIme_boot (s : State) (v : Bool) : (s.setIme v).boot = s.boot := rfl
@[simp] theorem setIme_ppu (s : State) (v : Bool) : (s.setIme v).ppu = s.ppu := rfl
@[simp] theorem setIme_xram (s : State) (v : Bool) : (s.setIme v).xram = s.xram := rfl
@[simp] theorem setIme_wram (s : State) (v : Bool) : (s.setIme v).wram = s.wram := rfl
@[simp] theorem setIme_oam (s : State) (v : Bool) : (s.setIme v).oam = s.oam := rfl
@[simp] theorem setIme_io (s : State) (v : Bool) : (s.setIme v).io = s.io := rfl
@[simp] theorem setIme_hram (s : State) (v : Bool) : (s.setIme v).hram = s.hram := rfl
@[simp] theorem setIme_faulted (s : State) (v : Bool) : (s.setIme v).faulted = s.faulted := rfl
@[simp] theorem setIme_joyInput (s : State) (v : Bool) : (s.setIme v).joyInput = s.joyInput := rfl
@[simp] theorem setIme_params (s : State) (v : Bool) : (s.setIme v).params = s.params := rfl
@[simp] theorem setIme_setIme (s : State) (v w : Bool) : (s.setIme v).setIme w = s.setIme w := rfl
@[simp] theorem setIme_reg (s : State) (v : Bool) (r : Reg8) : (s.setIme v).reg r = s.reg r := by cases r <;> rfl
@[simp] theorem setIme_pair (s : State) (v : Bool) (rr : Reg16) : (s.setIme v).pair rr = s.pair rr := by cases rr <;> rfl
@[simp] theorem setIme_hl (s : State) (v : Bool) : (s.setIme v).hl = s.hl := rfl

/-! ### setHalted -/

@[simp] theorem setHalted_regs (s : State) (v : Bool) : (s.setHalted v).regs = s.regs := rfl
@[simp] theorem setHalted_flags (s : State) (v : Bool) : (s.setHalted v).flags = s.flags := rfl
@[simp] theorem setHalted_sp (s : State) (v : Bool) : (s.setHalted v).sp = s.sp := rfl
@[simp] theorem setHalted_pc (s : State) (v : Bool) : (s.setHalted v).pc = s.pc := rfl
@[simp] theorem setHalted_ime (s : State) (v : Bool) : (s.setHalted v).ime = s.ime := rfl
@[simp] theorem setHalted_halted (s : State) (v : Bool) : (s.setHalted v).halted = v := rfl
@[simp] theorem setHalted_ie (s : State) (v : Bool) : (s.setHalted v).ie = s.ie := rfl
@[simp] theorem setHalted_ifl (s : State) (v : Bool) : (s.setHalted v).ifl = s.ifl := rfl
@[simp] theorem setHalted_div (s : State) (v : Bool) : (s.setHalted v).div = s.div := rfl
@[simp] theorem setHalted_tima (s : State) (v : Bool) : (s.setHalted v).tima = s.tima := rfl
@[simp] theorem setHalted_tma (s : State) (v : Bool) : (s.setHalted v).tma = s.tma := rfl
@[simp] theorem setHalted_tac (s : State) (v : Bool) : (s.setHalted v).tac = s.tac := rfl
@[simp] theorem setHalted_joypSel (s : State) (v : Bool) : (s.setHalted v).joypSel = s.joypSel := rfl
@[simp] theorem setHalted_joy (s : State) (v : Bool) : (s.setHalted v).joy = s.joy := rfl
@[simp] theorem setHalted_bootOff (s : State) (v : Bool) : (s.setHalted v).bootOff = s.bootOff := rfl
@[simp] theorem setHalted_cycles (s : State) (v : Bool) : (s.setHalted v).cycles = s.cycles := rfl
@[simp] theorem setHalted_lastTimerUpdate (s : State) (v : Bool) : (s.setHalted v).lastTimerUpdate = s.lastTimerUpdate := rfl
@[simp] theorem setHalted_serialOut (s : State) (v : Bool) : (s.setHalted v).serialOut = s.serialOut := rfl
@[simp] theorem setHalted_rom (s : State) (v : Bool) : (s.setHalted v).rom = s.rom := rfl
@[simp] theorem setHalted_boot (s : State) (v : Bool) : (s.setHalted v).boot = s.boot := rfl
@[simp] theorem setHalted_ppu (s : State) (v : Bool) : (s.setHalted v).ppu = s.ppu := rfl
@[simp] theorem setHalted_xram (s : State) (v : Bool) : (s.setHalted v).xram = s.xram := rfl
@[simp] theorem setHalted_wram (s : State) (v : Bool) : (s.setHalted v).wram = s.wram := rfl
@[simp] theorem setHalted_oam (s : State) (v : Bool) : (s.setHalted v).oam = s.oam := rfl
@[simp] theorem setHalted_io (s : State) (v : Bool) : (s.setHalted v).io = s.io := rfl
@[simp] theorem setHalted_hram (s : State) (v : Bool) : (s.setHalted v).hram = s.hram := rfl
@[simp] theorem setHalted_faulted (s : State) (v : Bool) : (s.setHalted v).faulted = s.faulted := rfl
@[simp] theorem setHalted_joyInput (s : State) (v : Bool) : (s.setHalted v).joyInput = s.joyInput := rfl
@[simp] theorem setHalted_params (s : State) (v : Bool) : (s.setHalted v).params = s.params := rfl
@[simp] theorem setHalted_setHalted (s : State) (v w : Bool) : (s.setHalted v).setHalted w = s.setHalted w := rfl
@[simp] theorem setHalted_reg (s : State) (v : Bool) (r : Reg8) : (s.setHalted v).reg r = s.reg r := by cases r <;> rfl
@[simp] theorem setHalted_pair (s : State) (v : Bool) (rr : Reg16) : (s.setHalted v).pair rr = s.pair rr := by cases rr <;> rfl
@[simp] theorem setHalted_hl (s : State) (v : Bool) : (s.setHalted v).hl = s.hl := rfl

/-! ### setIe -/

@[simp] theorem setIe_regs (s : State) (v : Byte) : (s.setIe v).regs = s.regs := rfl
@[simp] theorem setIe_flags (s : State) (v : Byte) : (s.setIe v).flags = s.flags := rfl
@[simp] theorem setIe_sp (s : State) (v : Byte) : (s.setIe v).sp = s.sp := rfl
@[simp] theorem setIe_pc (s : State) (v : Byte) : (s.setIe v).pc = s.pc := rfl
@[simp] theorem setIe_ime (s : State) (v : Byte) : (s.setIe v).ime = s.ime := rfl
@[simp] theorem setIe_halted (s : State) (v : Byte) : (s.setIe v).halted = s.halted := rfl
@[simp] theorem setIe_ie (s : State) (v : Byte) : (s.setIe v).ie = v := rfl
@[simp] theorem setIe_ifl (s : State) (v : Byte) : (s.setIe v).ifl = s.ifl := rfl
@[simp] theorem setIe_div (s : State) (v : Byte) : (s.setIe v).div = s.div := rfl
@[simp] theorem setIe_tima (s : State) (v : Byte) : (s.setIe v).tima = s.tima := rfl
@[simp] theorem setIe_tma (s : State) (v : Byte) : (s.setIe v).tma = s.tma := rfl
@[simp] theorem setIe_tac (s : State) (v : Byte) : (s.setIe v).tac = s.tac := rfl
@[simp] theorem setIe_joypSel (s : State) (v : Byte) : (s.setIe v).joypSel = s.joypSel := rfl
@[simp] theorem setIe_joy (s : State) (v : Byte) : (s.setIe v).joy = s.joy := rfl
@[simp] theorem setIe_bootOff (s : State) (v : Byte) : (s.setIe v).bootOff = s.bootOff := rfl
@[simp] theorem setIe_cycles (s : State) (v : Byte) : (s.setIe v).cycles = s.cycles := rfl
@[simp] theorem setIe_lastTimerUpdate (s : State) (v : Byte) : (s.setIe v).lastTimerUpdate = s.lastTimerUpdate := rfl
@[simp] theorem setIe_serialOut (s : State) (v : Byte) : (s.setIe v).serialOut = s.serialOut := rfl
@[simp] theorem setIe_rom (s : State) (v : Byte) : (s.setIe v).rom = s.rom := rfl
@[simp] theorem setIe_boot (s : State) (v : Byte) : (s.setIe v).boot = s.boot := rfl
@[simp] theorem setIe_ppu (s : State) (v : Byte) : (s.setIe v).ppu = s.ppu := rfl
@[simp] theorem setIe_xram (s : State) (v : Byte) : (s.setIe v).xram = s.xram := rfl
@[simp] theorem setIe_wram (s : State) (v : Byte) : (s.setIe v).wram = s.wram := rfl
@[simp] theorem setIe_oam (s : State) (v : Byte) : (s.setIe v).oam = s.oam := rfl
@[simp] theorem setIe_io (s : State) (v : Byte) : (s.setIe v).io = s.io := rfl
@[simp] theorem setIe_hram (s : State) (v : Byte) : (s.setIe v).hram = s.hram := rfl
@[simp] theorem setIe_faulted (s : State) (v : Byte) : (s.setIe v).faulted = s.faulted := rfl
@[simp] theorem setIe_joyInput (s : State) (v : Byte) : (s.setIe v).joyInput = s.joyInput := rfl
@[simp] theorem setIe_params (s : State) (v : Byte) : (s.setIe v).params = s.params := rfl
@[simp] theorem setIe_setIe (s : State) (v w : Byte) : (s.setIe v).setIe w = s.setIe w := rfl
@[simp] theorem setIe_reg (s : State) (v : Byte) (r : Reg8) : (s.setIe v).reg r = s.reg r := by cases r <;> rfl
@[simp] theorem setIe_pair (s : State) (v : Byte) (rr : Reg16) : (s.setIe v).pair rr = s.pair rr := by cases rr <;> rfl
@[simp] theorem setIe_hl (s : State) (v : Byte) : (s.setIe v).hl = s.hl := rfl

/-! ### setIf -/

@[simp] theorem setIf_regs (s : State) (v : Byte) : (s.setIf v).regs = s.regs := rfl
@[simp] theorem setIf_flags (s : State) (v : Byte) : (s.setIf v).flags = s.flags := rfl
@[simp] theorem setIf_sp (s : State) (v : Byte) : (s.setIf v).sp = s.sp := rfl
@[simp] theorem setIf_pc (s : State) (v : Byte) : (s.setIf v).pc = s.pc := rfl
@[simp] theorem setIf_ime (s : State) (v : Byte) : (s.setIf v).ime = s.ime := rfl
@[simp] theorem setIf_halted (s : State) (v : Byte) : (s.setIf v).halted = s.halted := rfl
@[simp] theorem setIf_ie (s : State) (v : Byte) : (s.setIf v).ie = s.ie := rfl
@[simp] theorem setIf_ifl (s : State) (v : Byte) : (s.setIf v).ifl = v := rfl
@[simp] theorem setIf_div (s : State) (v : Byte) : (s.setIf v).div = s.div := rfl
@[simp] theorem setIf_tima (s : State) (v : Byte) : (s.setIf v).tima = s.tima := rfl
@[simp] theorem setIf_tma (s : State) (v : Byte) : (s.setIf v).tma = s.tma := rfl
@[simp] theorem setIf_tac (s : State) (v : Byte) : (s.setIf v).tac = s.tac := rfl
@[simp] theorem setIf_joypSel (s : State) (v : Byte) : (s.setIf v).joypSel = s.joypSel := rfl
@[simp] theorem setIf_joy (s : State) (v : Byte) : (s.setIf v).joy = s.joy := rfl
@[simp] theorem setIf_bootOff (s : State) (v : Byte) : (s.setIf v).bootOff = s.bootOff := rfl
@[simp] theorem setIf_cycles (s : State) (v : Byte) : (s.setIf v).cycles = s.cycles := rfl
@[simp] theorem setIf_lastTimerUpdate (s : State) (v : Byte) : (s.setIf v).lastTimerUpdate = s.lastTimerUpdate := rfl
@[simp] theorem setIf_serialOut (s : State) (v : Byte) : (s.setIf v).serialOut = s.serialOut := rfl
@[simp] theorem setIf_rom (s : State) (v : Byte) : (s.setIf v).rom = s.rom := rfl
@[simp] theorem setIf_boot (s : State) (v : Byte) : (s.setIf v).boot = s.boot := rfl
@[simp] theorem setIf_ppu (s : State) (v : Byte) : (s.setIf v).ppu = s.ppu := rfl
@[simp] theorem setIf_xram (s : State) (v : Byte) : (s.setIf v).xram = s.xram := rfl
@[simp] theorem setIf_wram (s : State) (v : Byte) : (s.setIf v).wram = s.wram := rfl
@[simp] theorem setIf_oam (s : State) (v : Byte) : (s.setIf v).oam = s.oam := rfl
@[simp] theorem setIf_io (s : State) (v : Byte) : (s.setIf v).io = s.io := rfl
@[simp] theorem setIf_hram (s : State) (v : Byte) : (s.setIf v).hram = s.hram := rfl
@[simp] theorem setIf_faulted (s : State) (v : Byte) : (s.setIf v).faulted = s.faulted := rfl
@[simp] theorem setIf_joyInput (s : State) (v : Byte) : (s.setIf v).joyInput = s.joyInput := rfl
@[simp] theorem setIf_params (s : State) (v : Byte) : (s.setIf v).params = s.params := rfl
@[simp] theorem setIf_setIf (s : State) (v w : Byte) : (s.setIf v).setIf w = s.setIf w := rfl
@[simp] theorem setIf_reg (s : State) (v : Byte) (r : Reg8) : (s.setIf v).reg r = s.reg r := by cases r <;> rfl
@[simp] theorem setIf_pair (s : State) (v : Byte) (rr : Reg16) : (s.setIf v).pair rr = s.pair rr := by cases rr <;> rfl
@[simp] theorem setIf_hl (s : State) (v : Byte) : (s.setIf v).hl = s.hl := rfl

/-! ### setDiv -/

@[simp] theorem setDiv_regs (s : State) (v : Word) : (s.setDiv v).regs = s.regs := rfl
@[simp] theorem setDiv_flags (s : State) (v : Word) : (s.setDiv v).flags = s.flags := rfl
@[simp] theorem setDiv_sp (s : State) (v : Word) : (s.setDiv v).sp = s.sp := rfl
@[simp] theorem setDiv_pc (s : State) (v : Word) : (s.setDiv v).pc = s.pc := rfl
@[simp] theorem setDiv_ime (s : State) (v : Word) : (s.setDiv v).ime = s.ime := rfl
@[simp] theorem setDiv_halted (s : State) (v : Word) : (s.setDiv v).halted = s.halted := rfl
@[simp] theorem setDiv_ie (s : State) (v : Word) : (s.setDiv v).ie = s.ie := rfl
@[simp] theorem setDiv_ifl (s : State) (v : Word) : (s.setDiv v).ifl = s.ifl := rfl
@[simp] theorem setDiv_div (s : State) (v : Word) : (s.setDiv v).div = v := rfl
@[simp] theorem setDiv_tima (s : State) (v : Word) : (s.setDiv v).tima = s.tima := rfl
@[simp] theorem setDiv_tma (s : State) (v : Word) : (s.setDiv v).tma = s.tma := rfl
@[simp] theorem setDiv_tac (s : State) (v : Word) : (s.setDiv v).tac = s.tac := rfl
@[simp] theorem setDiv_joypSel (s : State) (v : Word) : (s.setDiv v).joypSel = s.joypSel := rfl
@[simp] theorem setDiv_joy (s : State) (v : Word) : (s.setDiv v).joy = s.joy := rfl
@[simp] theorem setDiv_bootOff (s : State) (v : Word) : (s.setDiv v).bootOff = s.bootOff := rfl
@[simp] theorem setDiv_cycles (s : State) (v : Word) : (s.setDiv v).cycles = s.cycles := rfl
@[simp] theorem setDiv_lastTimerUpdate (s : State) (v : Word) : (s.setDiv v).lastTimerUpdate = s.lastTimerUpdate := rfl
@[simp] theorem setDiv_serialOut (s : State) (v : Word) : (s.setDiv v).serialOut = s.serialOut := rfl
@[simp] theorem setDiv_rom (s : State) (v : Word) : (s.setDiv v).rom = s.rom := rfl
@[simp] theorem setDiv_boot (s : State) (v : Word) : (s.setDiv v).boot = s.boot := rfl
@[simp] theorem setDiv_ppu (s : State) (v : Word) : (s.setDiv v).ppu = s.ppu := rfl
@[simp] theorem setDiv_xram (s : State) (v : Word) : (s.setDiv v).xram = s.xram := rfl
@[simp] theorem setDiv_wram (s : State) (v : Word) : (s.setDiv v).wram = s.wram := rfl
@[simp] theorem setDiv_oam (s : State) (v : Word) : (s.setDiv v).oam = s.oam := rfl
@[simp] theorem setDiv_io (s : State) (v : Word) : (s.setDiv v).io = s.io := rfl
@[simp] theorem setDiv_hram (s : State) (v : Word) : (s.setDiv v).hram = s.hram := rfl
@[simp] theorem setDiv_faulted (s : State) (v : Word) : (s.setDiv v).faulted = s.faulted := rfl
@[simp] theorem setDiv_joyInput (s : State) (v : Word) : (s.setDiv v).joyInput = s.joyInput := rfl
@[simp] theorem setDiv_params (s : State) (v : Word) : (s.setDiv v).params = s.params := rfl
@[simp] theorem setDiv_setDiv (s : State) (v w : Word) : (s.setDiv v).setDiv w = s.setDiv w := rfl
@[simp] theorem setDiv_reg (s : State) (v : Word) (r : Reg8) : (s.setDiv v).reg r = s.reg r := by cases r <;> rfl
@[simp] theorem setDiv_pair (s : State) (v : Word) (rr : Reg16) : (s.setDiv v).pair rr = s.pair rr := by cases rr <;> rfl
@[simp] theorem setDiv_hl (s : State) (v : Word) : (s.setDiv v).hl = s.hl := rfl

/-! ### setTima -/

@[simp] theorem setTima_regs (s : State) (v : Byte) : (s.setTima v).regs = s.regs := rfl
@[simp] theorem setTima_flags (s : State) (v : Byte) : (s.setTima v).flags = s.flags := rfl
@[simp] theorem setTima_sp (s : State) (v : Byte) : (s.setTima v).sp = s.sp := rfl
@[simp] theorem setTima_pc (s : State) (v : Byte) : (s.setTima v).pc = s.pc := rfl
@[simp] theorem setTima_ime (s : State) (v : Byte) : (s.setTima v).ime = s.ime := rfl
@[simp] theorem setTima_halted (s : State) (v : Byte) : (s.setTima v).halted = s.halted := rfl
@[simp] theorem setTima_ie (s : State) (v : Byte) : (s.setTima v).ie = s.ie := rfl
@[simp] theorem setTima_ifl (s : State) (v : Byte) : (s.setTima v).ifl = s.ifl := rfl
@[simp] theorem setTima_div (s : State) (v : Byte) : (s.setTima v).div = s.div := rfl
@[simp] theorem setTima_tima (s : State) (v : Byte) : (s.setTima v).tima = v := rfl
@[simp] theorem setTima_tma (s : State) (v : Byte) : (s.setTima v).tma = s.tma := rfl
@[simp] theorem setTima_tac (s : State) (v : Byte) : (s.setTima v).tac = s.tac := rfl
@[simp] theorem setTima_joypSel (s : State) (v : Byte) : (s.setTima v).joypSel = s.joypSel := rfl
@[simp] theorem setTima_joy (s : State) (v : Byte) : (s.setTima v).joy = s.joy := rfl
@[simp] theorem setTima_bootOff (s : State) (v : Byte) : (s.setTima v).bootOff = s.bootOff := rfl
@[simp] theorem setTima_cycles (s : State) (v : Byte) : (s.setTima v).cycles = s.cycles := rfl
@[simp] theorem setTima_lastTimerUpdate (s : State) (v : Byte) : (s.setTima v).lastTimerUpdate = s.lastTimerUpdate := rfl
@[simp] theorem setTima_serialOut (s : State) (v : Byte) : (s.setTima v).serialOut = s.serialOut := rfl
@[simp] theorem setTima_rom (s : State) (v : Byte) : (s.setTima v).rom = s.rom := rfl
@[simp] theorem setTima_boot (s : State) (v : Byte) : (s.setTima v).boot = s.boot := rfl
@[simp] theorem setTima_ppu (s : State) (v : Byte) : (s.setTima v).ppu = s.ppu := rfl
@[simp] theorem setTima_xram (s : State) (v : Byte) : (s.setTima v).xram = s.xram := rfl
@[simp] theorem setTima_wram (s : State) (v : Byte) : (s.setTima v).wram = s.wram := rfl
@[simp] theorem setTima_oam (s : State) (v : Byte) : (s.setTima v).oam = s.oam := rfl
@[simp] theorem setTima_io (s : State) (v : Byte) : (s.setTima v).io = s.io := rfl
@[simp] theorem setTima_hram (s : State) (v : Byte) : (s.setTima v).hram = s.hram := rfl
@[simp] theorem setTima_faulted (s : State) (v : Byte) : (s.setTima v).faulted = s.faulted := rfl
@[simp] theorem setTima_joyInput (s : State) (v : Byte) : (s.setTima v).joyInput = s.joyInput := rfl
@[simp] theorem setTima_params (s : State) (v : Byte) : (s.setTima v).params = s.params := rfl
@[simp] theorem setTima_setTima (s : State) (v w : Byte) : (s.setTima v).setTima w = s.setTima w := rfl
@[simp] theorem setTima_reg (s : State) (v : Byte) (r : Reg8) : (s.setTima v).reg r = s.reg r := by cases r <;> rfl
@[simp] theorem setTima_pair (s : State) (v : Byte) (rr : Reg16) : (s.setTima v).pair rr = s.pair rr := by cases rr <;> rfl
@[simp] theorem setTima_hl (s : State) (v : Byte) : (s.setTima v).hl = s.hl := rfl

/-! ### setTma -/

@[simp] theorem setTma_regs (s : State) (v : Byte) : (s.setTma v).regs = s.regs := rfl
@[simp] theorem setTma_flags (s : State) (v : Byte) : (s.setTma v).flags = s.flags := rfl
@[simp] theorem setTma_sp (s : State) (v : Byte) : (s.setTma v).sp = s.sp := rfl
@[simp] theorem setTma_pc (s : State) (v : Byte) : (s.setTma v).pc = s.pc := rfl
@[simp] theorem setTma_ime (s : State) (v : Byte) : (s.setTma v).ime = s.ime := rfl
@[simp] theorem setTma_halted (s : State) (v : Byte) : (s.setTma v).halted = s.halted := rfl
@[simp] theorem setTma_ie (s : State) (v : Byte) : (s.setTma v).ie = s.ie := rfl
@[simp] theorem setTma_ifl (s : State) (v : Byte) : (s.setTma v).ifl = s.ifl := rfl
@[simp] theorem setTma_div (s : State) (v : Byte) : (s.setTma v).div = s.div := rfl
@[simp] theorem setTma_tima (s : State) (v : Byte) : (s.setTma v).tima = s.tima := rfl
@[simp] theorem setTma_tma (s : State) (v : Byte) : (s.setTma v).tma = v := rfl
@[simp] theorem setTma_tac (s : State) (v : Byte) : (s.setTma v).tac = s.tac := rfl
@[simp] theorem setTma_joypSel (s : State) (v : Byte) : (s.setTma v).joypSel = s.joypSel := rfl
@[simp] theorem setTma_joy (s : State) (v : Byte) : (s.setTma v).joy = s.joy := rfl
@[simp] theorem setTma_bootOff (s : State) (v : Byte) : (s.setTma v).bootOff = s.bootOff := rfl
@[simp] theorem setTma_cycles (s : State) (v : Byte) : (s.setTma v).cycles = s.cycles := rfl
@[simp] theorem setTma_lastTimerUpdate (s : State) (v : Byte) : (s.setTma v).lastTimerUpdate = s.lastTimerUpdate := rfl
@[simp] theorem setTma_serialOut (s : State) (v : Byte) : (s.setTma v).serialOut = s.serialOut := rfl
@[simp] theorem setTma_rom (s : State) (v : Byte) : (s.setTma v).rom = s.rom := rfl
@[simp] theorem setTma_boot (s : State) (v : Byte) : (s.setTma v).boot = s.boot := rfl
@[simp] theorem setTma_ppu (s : State) (v : Byte) : (s.setTma v).ppu = s.ppu := rfl
@[simp] theorem setTma_xram (s : State) (v : Byte) : (s.setTma v).xram = s.xram := rfl
@[simp] theorem setTma_wram (s : State) (v : Byte) : (s.setTma v).wram = s.wram := rfl
@[simp] theorem setTma_oam (s : State) (v : Byte) : (s.setTma v).oam = s.oam := rfl
@[simp] theorem setTma_io (s : State) (v : Byte) : (s.setTma v).io = s.io := rfl
@[simp] theorem setTma_hram (s : State) (v : Byte) : (s.setTma v).hram = s.hram := rfl
@[simp] theorem setTma_faulted (s : State) (v : Byte) : (s.setTma v).faulted = s.faulted := rfl
@[simp] theorem setTma_joyInput (s : State) (v : Byte) : (s.setTma v).joyInput = s.joyInput := rfl
@[simp] theorem setTma_params (s : State) (v : Byte) : (s.setTma v).params = s.params := rfl
@[simp] theorem setTma_setTma (s : State) (v w : Byte) : (s.setTma v).setTma w = s.setTma w := rfl
@[simp] theorem setTma_reg (s : State) (v : Byte) (r : Reg8) : (s.setTma v).reg r = s.reg r := by cases r <;> rfl
@[simp] theorem setTma_pair (s : State) (v : Byte) (rr : Reg16) : (s.setTma v).pair rr = s.pair rr := by cases rr <;> rfl
@[simp] theorem setTma_hl (s : State) (v : Byte) : (s.setTma v).hl = s.hl := rfl

/-! ### setTac -/

@[simp] theorem setTac_regs (s : State) (v : Byte) : (s.setTac v).regs = s.regs := rfl
@[simp] theorem setTac_flags (s : State) (v : Byte) : (s.setTac v).flags = s.flags := rfl
@[simp] theorem setTac_sp (s : State) (v : Byte) : (s.setTac v).sp = s.sp := rfl
@[simp] theorem setTac_pc (s : State) (v : Byte) : (s.setTac v).pc = s.pc := rfl
@[simp] theorem setTac_ime (s : State) (v : Byte) : (s.setTac v).ime = s.ime := rfl
@[simp] theorem setTac_halted (s : State) (v : Byte) : (s.setTac v).halted = s.halted := rfl
@[simp] theorem setTac_ie (s : State) (v : Byte) : (s.setTac v).ie = s.ie := rfl
@[simp] theorem setTac_ifl (s : State) (v : Byte) : (s.setTac v).ifl = s.ifl := rfl
@[simp] theorem setTac_div (s : State) (v : Byte) : (s.setTac v).div = s.div := rfl
@[simp] theorem setTac_tima (s : State) (v : Byte) : (s.setTac v).tima = s.tima := rfl
@[simp] theorem setTac_tma (s : State) (v : Byte) : (s.setTac v).tma = s.tma := rfl
@[simp] theorem setTac_tac (s : State) (v : Byte) : (s.setTac v).tac = v := rfl
@[simp] theorem setTac_joypSel (s : State) (v : Byte) : (s.setTac v).joypSel = s.joypSel := rfl
@[simp] theorem setTac_joy (s : State) (v : Byte) : (s.setTac v).joy = s.joy := rfl
@[simp] theorem setTac_bootOff (s : State) (v : Byte) : (s.setTac v).bootOff = s.bootOff := rfl
@[simp] theorem setTac_cycles (s : State) (v : Byte) : (s.setTac v).cycles = s.cycles := rfl
@[simp] theorem setTac_lastTimerUpdate (s : State) (v : Byte) : (s.setTac v).lastTimerUpdate = s.lastTimerUpdate := rfl
@[simp] theorem setTac_serialOut (s : State) (v : Byte) : (s.setTac v).serialOut = s.serialOut := rfl
@[simp] theorem setTac_rom (s : State) (v : Byte) : (s.setTac v).rom = s.rom := rfl
@[simp] theorem setTac_boot (s : State) (v : Byte) : (s.setTac v).boot = s.boot := rfl
@[simp] theorem setTac_ppu (s : State) (v : Byte) : (s.setTac v).ppu = s.ppu := rfl
@[simp] theorem setTac_xram (s : State) (v : Byte) : (s.setTac v).xram = s.xram := rfl
@[simp] theorem setTac_wram (s : State) (v : Byte) : (s.setTac v).wram = s.wram := rfl
@[simp] theorem setTac_oam (s : State) (v : Byte) : (s.setTac v).oam = s.oam := rfl
@[simp] theorem setTac_io (s : State) (v : Byte) : (s.setTac v).io = s.io := rfl
@[simp] theorem setTac_hram (s : State) (v : Byte) : (s.setTac v).hram = s.hram := rfl
@[simp] theorem setTac_faulted (s : State) (v : Byte) : (s.setTac v).faulted = s.faulted := rfl
@[simp] theorem setTac_joyInput (s : State) (v : Byte) : (s.setTac v).joyInput = s.joyInput := rfl
@[simp] theorem setTac_params (s : State) (v : Byte) : (s.setTac v).params = s.params := rfl
@[simp] theorem setTac_setTac (s : State) (v w : Byte) : (s.setTac v).setTac w = s.setTac w := rfl
@[simp] theorem setTac_reg (s : State) (v : Byte) (r : Reg8) : (s.setTac v).reg r = s.reg r := by cases r <;> rfl
@[simp] theorem setTac_pair (s : State) (v : Byte) (rr : Reg16) : (s.setTac v).pair rr = s.pair rr := by cases rr <;> rfl
@[simp] theorem setTac_hl (s : State) (v : Byte) : (s.setTac v).hl = s.hl := rfl

/-! ### setJoypSel -/

@[simp] theorem setJoypSel_regs (s : State) (v : BitVec 2) : (s.setJoypSel v).regs = s.regs := rfl
@[simp] theorem setJoypSel_flags (s : State) (v : BitVec 2) : (s.setJoypSel v).flags = s.flags := rfl
@[simp] theorem setJoypSel_sp (s : State) (v : BitVec 2) : (s.setJoypSel v).sp = s.sp := rfl
@[simp] theorem setJoypSel_pc (s : State) (v : BitVec 2) : (s.setJoypSel v).pc = s.pc := rfl
@[simp] theorem setJoypSel_ime (s : State) (v : BitVec 2) : (s.setJoypSel v).ime = s.ime := rfl
@[simp] theorem setJoypSel_halted (s : State) (v : BitVec 2) : (s.setJoypSel v).halted = s.halted := rfl
@[simp] theorem setJoypSel_ie (s : State) (v : BitVec 2) : (s.setJoypSel v).ie = s.ie := rfl
@[simp] theorem setJoypSel_ifl (s : State) (v : BitVec 2) : (s.setJoypSel v).ifl = s.ifl := rfl
@[simp] theorem setJoypSel_div (s : State) (v : BitVec 2) : (s.setJoypSel v).div = s.div := rfl
@[simp] theorem setJoypSel_tima (s : State) (v : BitVec 2) : (s.setJoypSel v).tima = s.tima := rfl
@[simp] theorem setJoypSel_tma (s : State) (v : BitVec 2) : (s.setJoypSel v).tma = s.tma := rfl
@[simp] theorem setJoypSel_tac (s : State) (v : BitVec 2) : (s.setJoypSel v).tac = s.tac := rfl
@[simp] theorem setJoypSel_joypSel (s : State) (v : BitVec 2) : (s.setJoypSel v).joypSel = v := rfl
@[simp] theorem setJoypSel_joy (s : State) (v : BitVec 2) : (s.setJoypSel v).joy = s.joy := rfl
@[simp] theorem setJoypSel_bootOff (s : State) (v : BitVec 2) : (s.setJoypSel v).bootOff = s.bootOff := rfl
@[simp] theorem setJoypSel_cycles (s : State) (v : BitVec 2) : (s.setJoypSel v).cycles = s.cycles := rfl
@[simp] theorem setJoypSel_lastTimerUpdate (s : State) (v : BitVec 2) : (s.setJoypSel v).lastTimerUpdate = s.lastTimerUpdate := rfl
@[simp] theorem setJoypSel_serialOut (s : State) (v : BitVec 2) : (s.setJoypSel v).serialOut = s.serialOut := rfl
@[simp] theorem setJoypSel_rom (s : State) (v : BitVec 2) : (s.setJoypSel v).rom = s.rom := rfl
@[simp] theorem setJoypSel_boot (s : State) (v : BitVec 2) : (s.setJoypSel v).boot = s.boot := rfl
@[simp] theorem setJoypSel_ppu (s : State) (v : BitVec 2) : (s.setJoypSel v).ppu = s.ppu := rfl
@[simp] theorem setJoypSel_xram (s : State) (v : BitVec 2) : (s.setJoypSel v).xram = s.xram := rfl
@[simp] theorem setJoypSel_wram (s : State) (v : BitVec 2) : (s.setJoypSel v).wram = s.wram := rfl
@[simp] theorem setJoypSel_oam (s : State) (v : BitVec 2) : (s.setJoypSel v).oam = s.oam := rfl
@[simp] theorem setJoypSel_io (s : State) (v : BitVec 2) : (s.setJoypSel v).io = s.io := rfl
@[simp] theorem setJoypSel_hram (s : State) (v : BitVec 2) : (s.setJoypSel v).hram = s.hram := rfl
@[simp] theorem setJoypSel_faulted (s : State) (v : BitVec 2) : (s.setJoypSel v).faulted = s.faulted := rfl
@[simp] theorem setJoypSel_joyInput (s : State) (v : BitVec 2) : (s.setJoypSel v).joyInput = s.joyInput := rfl
@[simp] theorem setJoypSel_params (s : State) (v : BitVec 2) : (s.setJoypSel v).params = s.params := rfl
@[simp] theorem setJoypSel_setJoypSel (s : State) (v w : BitVec 2) : (s.setJoypSel v).setJoypSel w = s.setJoypSel w := rfl
@[simp] theorem setJoypSel_reg (s : State) (v : BitVec 2) (r : Reg8) : (s.setJoypSel v).reg r = s.reg r := by cases r <;> rfl
@[simp] theorem setJoypSel_pair (s : State) (v : BitVec 2) (rr : Reg16) : (s.setJoypSel v).pair rr = s.pair rr := by cases rr <;> rfl
@[simp] theorem setJoypSel_hl (s : State) (v : BitVec 2) : (s.setJoypSel v).hl = s.hl := rfl

/-! ### setJoy -/

@[simp] theorem setJoy_regs (s : State) (v : Joypad) : (s.setJoy v).regs = s.regs := rfl
@[simp] theorem setJoy_flags (s : State) (v : Joypad) : (s.setJoy v).flags = s.flags := rfl
@[simp] theorem setJoy_sp (s : State) (v : Joypad) : (s.setJoy v).sp = s.sp := rfl
@[simp] theorem setJoy_pc (s : State) (v : Joypad) : (s.setJoy v).pc = s.pc := rfl
@[simp] theorem setJoy_ime (s : State) (v : Joypad) : (s.setJoy v).ime = s.ime := rfl
@[simp] theorem setJoy_halted (s : State) (v : Joypad) : (s.setJoy v).halted = s.halted := rfl
@[simp] theorem setJoy_ie (s : State) (v : Joypad) : (s.setJoy v).ie = s.ie := rfl
@[simp] theorem setJoy_ifl (s : State) (v : Joypad) : (s.setJoy v).ifl = s.ifl := rfl
@[simp] theorem setJoy_div (s : State) (v : Joypad) : (s.setJoy v).div = s.div := rfl
@[simp] theorem setJoy_tima (s : State) (v : Joypad) : (s.setJoy v).tima = s.tima := rfl
@[simp] theorem setJoy_tma (s : State) (v : Joypad) : (s.setJoy v).tma = s.tma := rfl
@[simp] theorem setJoy_tac (s : State) (v : Joypad) : (s.setJoy v).tac = s.tac := rfl
@[simp] theorem setJoy_joypSel (s : State) (v : Joypad) : (s.setJoy v).joypSel = s.joypSel := rfl
@[simp] theorem setJoy_joy (s : State) (v : Joypad) : (s.setJoy v).joy = v := rfl
@[simp] theorem setJoy_bootOff (s : State) (v : Joypad) : (s.setJoy v).bootOff = s.bootOff := rfl
@[simp] theorem setJoy_cycles (s : State) (v : Joypad) : (s.setJoy v).cycles = s.cycles := rfl
@[simp] theorem setJoy_lastTimerUpdate (s : State) (v : Joypad) : (s.setJoy v).lastTimerUpdate = s.lastTimerUpdate := rfl
@[simp] theorem setJoy_serialOut (s : State) (v : Joypad) : (s.setJoy v).serialOut = s.serialOut := rfl
@[simp] theorem setJoy_rom (s : State) (v : Joypad) : (s.setJoy v).rom = s.rom := rfl
@[simp] theorem setJoy_boot (s : State) (v : Joypad) : (s.setJoy v).boot = s.boot := rfl
@[simp] theorem setJoy_ppu (s : State) (v : Joypad) : (s.setJoy v).ppu = s.ppu := rfl
@[simp] theorem setJoy_xram (s : State) (v : Joypad) : (s.setJoy v).xram = s.xram := rfl
@[simp] theorem setJoy_wram (s : State) (v : Joypad) : (s.setJoy v).wram = s.wram := rfl
@[simp] theorem setJoy_oam (s : State) (v : Joypad) : (s.setJoy v).oam = s.oam := rfl
@[simp] theorem setJoy_io (s : State) (v : Joypad) : (s.setJoy v).io = s.io := rfl
@[simp] theorem setJoy_hram (s : State) (v : Joypad) : (s.setJoy v).hram = s.hram := rfl
@[simp] theorem setJoy_faulted (s : State) (v : Joypad) : (s.setJoy v).faulted = s.faulted := rfl
@[simp] theorem setJoy_joyInput (s : State) (v : Joypad) : (s.setJoy v).joyInput = s.joyInput := rfl
@[simp] theorem setJoy_params (s : State) (v : Joypad) : (s.setJoy v).params = s.params := rfl
@[simp] theorem setJoy_setJoy (s : State) (v w : Joypad) : (s.setJoy v).setJoy w = s.setJoy w := rfl
@[simp] theorem setJoy_reg (s : State) (v : Joypad) (r : Reg8) : (s.setJoy v).reg r = s.reg r := by cases r <;> rfl
@[simp] theorem setJoy_pair (s : State) (v : Joypad) (rr : Reg16) : (s.setJoy v).pair rr = s.pair rr := by cases rr <;> rfl
@[simp] theorem setJoy_hl (s : State) (v : Joypad) : (s.setJoy v).hl = s.hl := rfl

/-! ### setBootOff -/

@[simp] theorem setBootOff_regs (s : State) (v : Bool) : (s.setBootOff v).regs = s.regs := rfl
@[simp] theorem setBootOff_flags (s : State) (v : Bool) : (s.setBootOff v).flags = s.flags := rfl
@[simp] theorem setBootOff_sp (s : State) (v : Bool) : (s.setBootOff v).sp = s.sp := rfl
@[simp] theorem setBootOff_pc (s : State) (v : Bool) : (s.setBootOff v).pc = s.pc := rfl
@[simp] theorem setBootOff_ime (s : State) (v : Bool) : (s.setBootOff v).ime = s.ime := rfl
@[simp] theorem setBootOff_halted (s : State) (v : Bool) : (s.setBootOff v).halted = s.halted := rfl
@[simp] theorem setBootOff_ie (s : State) (v : Bool) : (s.setBootOff v).ie = s.ie := rfl
@[simp] theorem setBootOff_ifl (s : State) (v : Bool) : (s.setBootOff v).ifl = s.ifl := rfl
@[simp] theorem setBootOff_div (s : State) (v : Bool) : (s.setBootOff v).div = s.div := rfl
@[simp] theorem setBootOff_tima (s : State) (v : Bool) : (s.setBootOff v).tima = s.tima := rfl
@[simp] theorem setBootOff_tma (s : State) (v : Bool) : (s.setBootOff v).tma = s.tma := rfl
@[simp] theorem setBootOff_tac (s : State) (v : Bool) : (s.setBootOff v).tac = s.tac := rfl
@[simp] theorem setBootOff_joypSel (s : State) (v : Bool) : (s.setBootOff v).joypSel = s.joypSel := rfl
@[simp] theorem setBootOff_joy (s : State) (v : Bool) : (s.setBootOff v).joy = s.joy := rfl
@[simp] theorem setBootOff_bootOff (s : State) (v : Bool) : (s.setBootOff v).bootOff = v := rfl
@[simp] theorem setBootOff_cycles (s : State) (v : Bool) : (s.setBootOff v).cycles = s.cycles := rfl
@[simp] theorem setBootOff_lastTimerUpdate (s : State) (v : Bool) : (s.setBootOff v).lastTimerUpdate = s.lastTimerUpdate := rfl
@[simp] theorem setBootOff_serialOut (s : State) (v : Bool) : (s.setBootOff v).serialOut = s.serialOut := rfl
@[simp] theorem setBootOff_rom (s : State) (v : Bool) : (s.setBootOff v).rom = s.rom := rfl
@[simp] theorem setBootOff_boot (s : State) (v : Bool) : (s.setBootOff v).boot = s.boot := rfl
@[simp] theorem setBootOff_ppu (s : State) (v : Bool) : (s.setBootOff v).ppu = s.ppu := rfl
@[simp] theorem setBootOff_xram (s : State) (v : Bool) : (s.setBootOff v).xram = s.xram := rfl
@[simp] theorem setBootOff_wram (s : State) (v : Bool) : (s.setBootOff v).wram = s.wram := rfl
@[simp] theorem setBootOff_oam (s : State) (v : Bool) : (s.setBootOff v).oam = s.oam := rfl
@[simp] theorem setBootOff_io (s : State) (v : Bool) : (s.setBootOff v).io = s.io := rfl
@[simp] theorem setBootOff_hram (s : State) (v : Bool) : (s.setBootOff v).hram = s.hram := rfl
@[simp] theorem setBootOff_faulted (s : State) (v : Bool) : (s.setBootOff v).faulted = s.faulted := rfl
@[simp] theorem setBootOff_joyInput (s : State) (v : Bool) : (s.setBootOff v).joyInput = s.joyInput := rfl
@[simp] theorem setBootOff_params (s : State) (v : Bool) : (s.setBootOff v).params = s.params := rfl
@[simp] theorem setBootOff_setBootOff (s : State) (v w : Bool) : (s.setBootOff v).setBootOff w = s.setBootOff w := rfl
@[simp] theorem setBootOff_reg (s : State) (v : Bool) (r : Reg8) : (s.setBootOff v).reg r = s.reg r := by cases r <;> rfl
@[simp] theorem setBootOff_pair (s : State) (v : Bool) (rr : Reg16) : (s.setBootOff v).pair rr = s.pair rr := by cases rr <;> rfl
@[simp] theorem setBootOff_hl (s : State) (v : Bool) : (s.setBootOff v).hl = s.hl := rfl

/-! ### setCycles -/

@[simp] theorem setCycles_regs (s : State) (v : Nat) : (s.setCycles v).regs = s.regs := rfl
@[simp] theorem setCycles_flags (s : State) (v : Nat) : (s.setCycles v).flags = s.flags := rfl
@[simp] theorem setCycles_sp (s : State) (v : Nat) : (s.setCycles v).sp = s.sp := rfl
@[simp] theorem setCycles_pc (s : State) (v : Nat) : (s.setCycles v).pc = s.pc := rfl
@[simp] theorem setCycles_ime (s : State) (v : Nat) : (s.setCycles v).ime = s.ime := rfl
@[simp] theorem setCycles_halted (s : State) (v : Nat) : (s.setCycles v).halted = s.halted := rfl
@[simp] theorem setCycles_ie (s : State) (v : Nat) : (s.setCycles v).ie = s.ie := rfl
@[simp] theorem setCycles_ifl (s : State) (v : Nat) : (s.setCycles v).ifl = s.ifl := rfl
@[simp] theorem setCycles_div (s : State) (v : Nat) : (s.setCycles v).div = s.div := rfl
@[simp] theorem setCycles_tima (s : State) (v : Nat) : (s.setCycles v).tima = s.tima := rfl
@[simp] theorem setCycles_tma (s : State) (v : Nat) : (s.setCycles v).tma = s.tma := rfl
@[simp] theorem setCycles_tac (s : State) (v : Nat) : (s.setCycles v).tac = s.tac := rfl
@[simp] theorem setCycles_joypSel (s : State) (v : Nat) : (s.setCycles v).joypSel = s.joypSel := rfl
@[simp] theorem setCycles_joy (s : State) (v : Nat) : (s.setCycles v).joy = s.joy := rfl
@[simp] theorem setCycles_bootOff (s : State) (v : Nat) : (s.setCycles v).bootOff = s.bootOff := rfl
@[simp] theorem setCycles_cycles (s : State) (v : Nat) : (s.setCycles v).cycles = v := rfl
@[simp] theorem setCycles_lastTimerUpdate (s : State) (v : Nat) : (s.setCycles v).lastTimerUpdate = s.lastTimerUpdate := rfl
@[simp] theorem setCycles_serialOut (s : State) (v : Nat) : (s.setCycles v).serialOut = s.serialOut := rfl
@[simp] theorem setCycles_rom (s : State) (v : Nat) : (s.setCycles v).rom = s.rom := rfl
@[simp] theorem setCycles_boot (s : State) (v : Nat) : (s.setCycles v).boot = s.boot := rfl
@[simp] theorem setCycles_ppu (s : State) (v : Nat) : (s.setCycles v).ppu = s.ppu := rfl
@[simp] theorem setCycles_xram (s : State) (v : Nat) : (s.setCycles v).xram = s.xram := rfl
@[simp] theorem setCycles_wram (s : State) (v : Nat) : (s.setCycles v).wram = s.wram := rfl
@[simp] theorem setCycles_oam (s : State) (v : Nat) : (s.setCycles v).oam = s.oam := rfl
@[simp] theorem setCycles_io (s : State) (v : Nat) : (s.setCycles v).io = s.io := rfl
@[simp] theorem setCycles_hram (s : State) (v : Nat) : (s.setCycles v).hram = s.hram := rfl
@[simp] theorem setCycles_faulted (s : State) (v : Nat) : (s.setCycles v).faulted = s.faulted := rfl
@[simp] theorem setCycles_joyInput (s : State) (v : Nat) : (s.setCycles v).joyInput = s.joyInput := rfl
@[simp] theorem setCycles_params (s : State) (v : Nat) : (s.setCycles v).params = s.params := rfl
@[simp] theorem setCycles_setCycles (s : State) (v w : Nat) : (s.setCycles v).setCycles w = s.setCycles w := rfl
@[simp] theorem setCycles_reg (s : State) (v : Nat) (r : Reg8) : (s.setCycles v).reg r = s.reg r := by cases r <;> rfl
@[simp] theorem setCycles_pair (s : State) (v : Nat) (rr : Reg16) : (s.setCycles v).pair rr = s.pair rr := by cases rr <;> rfl
@[simp] theorem setCycles_hl (s : State) (v : Nat) : (s.setCycles v).hl = s.hl := rfl

/-! ### setLastTimerUpdate -/

@[simp] theorem setLastTimerUpdate_regs (s : State) (v : Nat) : (s.setLastTimerUpdate v).regs = s.regs := rfl
@[simp] theorem setLastTimerUpdate_flags (s : State) (v : Nat) : (s.setLastTimerUpdate v).flags = s.flags := rfl
@[simp] theorem setLastTimerUpdate_sp (s : State) (v : Nat) : (s.setLastTimerUpdate v).sp = s.sp := rfl
@[simp] theorem setLastTimerUpdate_pc (s : State) (v : Nat) : (s.setLastTimerUpdate v).pc = s.pc := rfl
@[simp] theorem setLastTimerUpdate_ime (s : State) (v : Nat) : (s.setLastTimerUpdate v).ime = s.ime := rfl
@[simp] theorem setLastTimerUpdate_halted (s : State) (v : Nat) : (s.setLastTimerUpdate v).halted = s.halted := rfl
@[simp] theorem setLastTimerUpdate_ie (s : State) (v : Nat) : (s.setLastTimerUpdate v).ie = s.ie := rfl
@[simp] theorem setLastTimerUpdate_ifl (s : State) (v : Nat) : (s.setLastTimerUpdate v).ifl = s.ifl := rfl
@[simp] theorem setLastTimerUpdate_div (s : State) (v : Nat) : (s.setLastTimerUpdate v).div = s.div := rfl
@[simp] theorem setLastTimerUpdate_tima (s : State) (v : Nat) : (s.setLastTimerUpdate v).tima = s.tima := rfl
@[simp] theorem setLastTimerUpdate_tma (s : State) (v : Nat) : (s.setLastTimerUpdate v).tma = s.tma := rfl
@[simp] theorem setLastTimerUpdate_tac (s : State) (v : Nat) : (s.setLastTimerUpdate v).tac = s.tac := rfl
@[simp] theorem setLastTimerUpdate_joypSel (s : State) (v : Nat) : (s.setLastTimerUpdate v).joypSel = s.joypSel := rfl
@[simp] theorem setLastTimerUpdate_joy (s : State) (v : Nat) : (s.setLastTimerUpdate v).joy = s.joy := rfl
@[simp] theorem setLastTimerUpdate_bootOff (s : State) (v : Nat) : (s.setLastTimerUpdate v).bootOff = s.bootOff := rfl
@[simp] theorem setLastTimerUpdate_cycles (s : State) (v : Nat) : (s.setLastTimerUpdate v).cycles = s.cycles := rfl
@[simp] theorem setLastTimerUpdate_lastTimerUpdate (s : State) (v : Nat) : (s.setLastTimerUpdate v).lastTimerUpdate = v := rfl
@[simp] theorem setLastTimerUpdate_serialOut (s : State) (v : Nat) : (s.setLastTimerUpdate v).serialOut = s.serialOut := rfl
@[simp] theorem setLastTimerUpdate_rom (s : State) (v : Nat) : (s.setLastTimerUpdate v).rom = s.rom := rfl
@[simp] theorem setLastTimerUpdate_boot (s : State) (v : Nat) : (s.setLastTimerUpdate v).boot = s.boot := rfl
@[simp] theorem setLastTimerUpdate_ppu (s : State) (v : Nat) : (s.setLastTimerUpdate v).ppu = s.ppu := rfl
@[simp] theorem setLastTimerUpdate_xram (s : State) (v : Nat) : (s.setLastTimerUpdate v).xram = s.xram := rfl
@[simp] theorem setLastTimerUpdate_wram (s : State) (v : Nat) : (s.setLastTimerUpdate v).wram = s.wram := rfl
@[simp] theorem setLastTimerUpdate_oam (s : State) (v : Nat) : (s.setLastTimerUpdate v).oam = s.oam := rfl
@[simp] theorem setLastTimerUpdate_io (s : State) (v : Nat) : (s.setLastTimerUpdate v).io = s.io := rfl
@[simp] theorem setLastTimerUpdate_hram (s : State) (v : Nat) : (s.setLastTimerUpdate v).hram = s.hram := rfl
@[simp] theorem setLastTimerUpdate_faulted (s : State) (v : Nat) : (s.setLastTimerUpdate v).faulted = s.faulted := rfl
@[simp] theorem setLastTimerUpdate_joyInput (s : State) (v : Nat) : (s.setLastTimerUpdate v).joyInput = s.joyInput := rfl
@[simp] theorem setLastTimerUpdate_params (s : State) (v : Nat) : (s.setLastTimerUpdate v).params = s.params := rfl
@[simp] theorem setLastTimerUpdate_setLastTimerUpdate (s : State) (v w : Nat) : (s.setLastTimerUpdate v).setLastTimerUpdate w = s.setLastTimerUpdate w := rfl
@[simp] theorem setLastTimerUpdate_reg (s : State) (v : Nat) (r : Reg8) : (s.setLastTimerUpdate v).reg r = s.reg r := by cases r <;> rfl
@[simp] theorem setLastTimerUpdate_pair (s : State) (v : Nat) (rr : Reg16) : (s.setLastTimerUpdate v).pair rr = s.pair rr := by cases rr <;> rfl
@[simp] theorem setLastTimerUpdate_hl (s : State) (v : Nat) : (s.setLastTimerUpdate v).hl = s.hl := rfl

/-! ### setSerialOut -/

@[simp] theorem setSerialOut_regs (s : State) (v : List Byte) : (s.setSerialOut v).regs = s.regs := rfl
@[simp] theorem setSerialOut_flags (s : State) (v : List Byte) : (s.setSerialOut v).flags = s.flags := rfl
@[simp] theorem setSerialOut_sp (s : State) (v : List Byte) : (s.setSerialOut v).sp = s.sp := rfl
@[simp] theorem setSerialOut_pc (s : State) (v : List Byte) : (s.setSerialOut v).pc = s.pc := rfl
@[simp] theorem setSerialOut_ime (s : State) (v : List Byte) : (s.setSerialOut v).ime = s.ime := rfl
@[simp] theorem setSerialOut_halted (s : State) (v : List Byte) : (s.setSerialOut v).halted = s.halted := rfl
@[simp] theorem setSerialOut_ie (s : State) (v : List Byte) : (s.setSerialOut v).ie = s.ie := rfl
@[simp] theorem setSerialOut_ifl (s : State) (v : List Byte) : (s.setSerialOut v).ifl = s.ifl := rfl
@[simp] theorem setSerialOut_div (s : State) (v : List Byte) : (s.setSerialOut v).div = s.div := rfl
@[simp] theorem setSerialOut_tima (s : State) (v : List Byte) : (s.setSerialOut v).tima = s.tima := rfl
@[simp] theorem setSerialOut_tma (s : State) (v : List Byte) : (s.setSerialOut v).tma = s.tma := rfl
@[simp] theorem setSerialOut_tac (s : State) (v : List Byte) : (s.setSerialOut v).tac = s.tac := rfl
@[simp] theorem setSerialOut_joypSel (s : State) (v : List Byte) : (s.setSerialOut v).joypSel = s.joypSel := rfl
@[simp] theorem setSerialOut_joy (s : State) (v : List Byte) : (s.setSerialOut v).joy = s.joy := rfl
@[simp] theorem setSerialOut_bootOff (s : State) (v : List Byte) : (s.setSerialOut v).bootOff = s.bootOff := rfl
@[simp] theorem setSerialOut_cycles (s : State) (v : List Byte) : (s.setSerialOut v).cycles = s.cycles := rfl
@[simp] theorem setSerialOut_lastTimerUpdate (s : State) (v : List Byte) : (s.setSerialOut v).lastTimerUpdate = s.lastTimerUpdate := rfl
@[simp] theorem setSerialOut_serialOut (s : State) (v : List Byte) : (s.setSerialOut v).serialOut = v := rfl
@[simp] theorem setSerialOut_rom (s : State) (v : List Byte) : (s.setSerialOut v).rom = s.rom := rfl
@[simp] theorem setSerialOut_boot (s : State) (v : List Byte) : (s.setSerialOut v).boot = s.boot := rfl
@[simp] theorem setSerialOut_ppu (s : State) (v : List Byte) : (s.setSerialOut v).ppu = s.ppu := rfl
@[simp] theorem setSerialOut_xram (s : State) (v : List Byte) : (s.setSerialOut v).xram = s.xram := rfl
@[simp] theorem setSerialOut_wram (s : State) (v : List Byte) : (s.setSerialOut v).wram = s.wram := rfl
@[simp] theorem setSerialOut_oam (s : State) (v : List Byte) : (s.setSerialOut v).oam = s.oam := rfl
@[simp] theorem setSerialOut_io (s : State) (v : List Byte) : (s.setSerialOut v).io = s.io := rfl
@[simp] theorem setSerialOut_hram (s : State) (v : List Byte) : (s.setSerialOut v).hram = s.hram := rfl
@[simp] theorem setSerialOut_faulted (s : State) (v : List Byte) : (s.setSerialOut v).faulted = s.faulted := rfl
@[simp] theorem setSerialOut_joyInput (s : State) (v : List Byte) : (s.setSerialOut v).joyInput = s.joyInput := rfl
@[simp] theorem setSerialOut_params (s : State) (v : List Byte) : (s.setSerialOut v).params = s.params := rfl
@[simp] theorem setSerialOut_setSerialOut (s : State) (v w : List Byte) : (s.setSerialOut v).setSerialOut w = s.setSerialOut w := rfl
@[simp] theorem setSerialOut_reg (s : State) (v : List Byte) (r : Reg8) : (s.setSerialOut v).reg r = s.reg r := by cases r <;> rfl
@[simp] theorem setSerialOut_pair (s : State) (v : List Byte) (rr : Reg16) : (s.setSerialOut v).pair rr = s.pair rr := by cases rr <;> rfl
@[simp] theorem setSerialOut_hl (s : State) (v : List Byte) : (s.setSerialOut v).hl = s.hl := rfl

/-! ### setRom -/

@[simp] theorem setRom_regs (s : State) (v : Memory) : (s.setRom v).regs = s.regs := rfl
@[simp] theorem setRom_flags (s : State) (v : Memory) : (s.setRom v).flags = s.flags := rfl
@[simp] theorem setRom_sp (s : State) (v : Memory) : (s.setRom v).sp = s.sp := rfl
@[simp] theorem setRom_pc (s : State) (v : Memory) : (s.setRom v).pc = s.pc := rfl
@[simp] theorem setRom_ime (s : State) (v : Memory) : (s.setRom v).ime = s.ime := rfl
@[simp] theorem setRom_halted (s : State) (v : Memory) : (s.setRom v).halted = s.halted := rfl
@[simp] theorem setRom_ie (s : State) (v : Memory) : (s.setRom v).ie = s.ie := rfl
@[simp] theorem setRom_ifl (s : State) (v : Memory) : (s.setRom v).ifl = s.ifl := rfl
@[simp] theorem setRom_div (s : State) (v : Memory) : (s.setRom v).div = s.div := rfl
@[simp] theorem setRom_tima (s : State) (v : Memory) : (s.setRom v).tima = s.tima := rfl
@[simp] theorem setRom_tma (s : State) (v : Memory) : (s.setRom v).tma = s.tma := rfl
@[simp] theorem setRom_tac (s : State) (v : Memory) : (s.setRom v).tac = s.tac := rfl
@[simp] theorem setRom_joypSel (s : State) (v : Memory) : (s.setRom v).joypSel = s.joypSel := rfl
@[simp] theorem setRom_joy (s : State) (v : Memory) : (s.setRom v).joy = s.joy := rfl
@[simp] theorem setRom_bootOff (s : State) (v : Memory) : (s.setRom v).bootOff = s.bootOff := rfl
@[simp] theorem setRom_cycles (s : State) (v : Memory) : (s.setRom v).cycles = s.cycles := rfl
@[simp] theorem setRom_lastTimerUpdate (s : State) (v : Memory) : (s.setRom v).lastTimerUpdate = s.lastTimerUpdate := rfl
@[simp] theorem setRom_serialOut (s : State) (v : Memory) : (s.setRom v).serialOut = s.serialOut := rfl
@[simp] theorem setRom_rom (s : State) (v : Memory) : (s.setRom v).rom = v := rfl
@[simp] theorem setRom_boot (s : State) (v : Memory) : (s.setRom v).boot = s.boot := rfl
@[simp] theorem setRom_ppu (s : State) (v : Memory) : (s.setRom v).ppu = s.ppu := rfl
@[simp] theorem setRom_xram (s : State) (v : Memory) : (s.setRom v).xram = s.xram := rfl
@[simp] theorem setRom_wram (s : State) (v : Memory) : (s.setRom v).wram = s.wram := rfl
@[simp] theorem setRom_oam (s : State) (v : Memory) : (s.setRom v).oam = s.oam := rfl
@[simp] theorem setRom_io (s : State) (v : Memory) : (s.setRom v).io = s.io := rfl
@[simp] theorem setRom_hram (s : State) (v : Memory) : (s.setRom v).hram = s.hram := rfl
@[simp] theorem setRom_faulted (s : State) (v : Memory) : (s.setRom v).faulted = s.faulted := rfl
@[simp] theorem setRom_joyInput (s : State) (v : Memory) : (s.setRom v).joyInput = s.joyInput := rfl
@[simp] theorem setRom_params (s : State) (v : Memory) : (s.setRom v).params = s.params := rfl
@[simp] theorem setRom_setRom (s : State) (v w : Memory) : (s.setRom v).setRom w = s.setRom w := rfl
@[simp] theorem setRom_reg (s : State) (v : Memory) (r : Reg8) : (s.setRom v).reg r = s.reg r := by cases r <;> rfl
@[simp] theorem setRom_pair (s : State) (v : Memory) (rr : Reg16) : (s.setRom v).pair rr = s.pair rr := by cases rr <;> rfl
@[simp] theorem setRom_hl (s : State) (v : Memory) : (s.setRom v).hl = s.hl := rfl

/-! ### setBoot -/

@[simp] theorem setBoot_regs (s : State) (v : Memory) : (s.setBoot v).regs = s.regs := rfl
@[simp] theorem setBoot_flags (s : State) (v : Memory) : (s.setBoot v).flags = s.flags := rfl
@[simp] theorem setBoot_sp (s : State) (v : Memory) : (s.setBoot v).sp = s.sp := rfl
@[simp] theorem setBoot_pc (s : State) (v : Memory) : (s.setBoot v).pc = s.pc := rfl
@[simp] theorem setBoot_ime (s : State) (v : Memory) : (s.setBoot v).ime = s.ime := rfl
@[simp] theorem setBoot_halted (s : State) (v : Memory) : (s.setBoot v).halted = s.halted := rfl
@[simp] theorem setBoot_ie (s : State) (v : Memory) : (s.setBoot v).ie = s.ie := rfl
@[simp] theorem setBoot_ifl (s : State) (v : Memory) : (s.setBoot v).ifl = s.ifl := rfl
@[simp] theorem setBoot_div (s : State) (v : Memory) : (s.setBoot v).div = s.div := rfl
@[simp] theorem setBoot_tima (s : State) (v : Memory) : (s.setBoot v).tima = s.tima := rfl
@[simp] theorem setBoot_tma (s : State) (v : Memory) : (s.setBoot v).tma = s.tma := rfl
@[simp] theorem setBoot_tac (s : State) (v : Memory) : (s.setBoot v).tac = s.tac := rfl
@[simp] theorem setBoot_joypSel (s : State) (v : Memory) : (s.setBoot v).joypSel = s.joypSel := rfl
@[simp] theorem setBoot_joy (s : State) (v : Memory) : (s.setBoot v).joy = s.joy := rfl
@[simp] theorem setBoot_bootOff (s : State) (v : Memory) : (s.setBoot v).bootOff = s.bootOff := rfl
@[simp] theorem setBoot_cycles (s : State) (v : Memory) : (s.setBoot v).cycles = s.cycles := rfl
@[simp] theorem setBoot_lastTimerUpdate (s : State) (v : Memory) : (s.setBoot v).lastTimerUpdate = s.lastTimerUpdate := rfl
@[simp] theorem setBoot_serialOut (s : State) (v : Memory) : (s.setBoot v).serialOut = s.serialOut := rfl
@[simp] theorem setBoot_rom (s : State) (v : Memory) : (s.setBoot v).rom = s.rom := rfl
@[simp] theorem setBoot_boot (s : State) (v : Memory) : (s.setBoot v).boot = v := rfl
@[simp] theorem setBoot_ppu (s : State) (v : Memory) : (s.setBoot v).ppu = s.ppu := rfl
@[simp] theorem setBoot_xram (s : State) (v : Memory) : (s.setBoot v).xram = s.xram := rfl
@[simp] theorem setBoot_wram (s : State) (v : Memory) : (s.setBoot v).wram = s.wram := rfl
@[simp] theorem setBoot_oam (s : State) (v : Memory) : (s.setBoot v).oam = s.oam := rfl
@[simp] theorem setBoot_io (s : State) (v : Memory) : (s.setBoot v).io = s.io := rfl
@[simp] theorem setBoot_hram (s : State) (v : Memory) : (s.setBoot v).hram = s.hram := rfl
@[simp] theorem setBoot_faulted (s : State) (v : Memory) : (s.setBoot v).faulted = s.faulted := rfl
@[simp] theorem setBoot_joyInput (s : State) (v : Memory) : (s.setBoot v).joyInput = s.joyInput := rfl
@[simp] theorem setBoot_params (s : State) (v : Memory) : (s.setBoot v).params = s.params := rfl
@[simp] theorem setBoot_setBoot (s : State) (v w : Memory) : (s.setBoot v).setBoot w = s.setBoot w := rfl
@[simp] theorem setBoot_reg (s : State) (v : Memory) (r : Reg8) : (s.setBoot v).reg r = s.reg r := by cases r <;> rfl
@[simp] theorem setBoot_pair (s : State) (v : Memory) (rr : Reg16) : (s.setBoot v).pair rr = s.pair rr := by cases rr <;> rfl
@[simp] theorem setBoot_hl (s : State) (v : Memory) : (s.setBoot v).hl = s.hl := rfl

/-! ### setPpu -/

@[simp] theorem setPpu_regs (s : State) (v : PpuState) : (s.setPpu v).regs = s.regs := rfl
@[simp] theorem setPpu_flags (s : State) (v : PpuState) : (s.setPpu v).flags = s.flags := rfl
@[simp] theorem setPpu_sp (s : State) (v : PpuState) : (s.setPpu v).sp = s.sp := rfl
@[simp] theorem setPpu_pc (s : State) (v : PpuState) : (s.setPpu v).pc = s.pc := rfl
@[simp] theorem setPpu_ime (s : State) (v : PpuState) : (s.setPpu v).ime = s.ime := rfl
@[simp] theorem setPpu_halted (s : State) (v : PpuState) : (s.setPpu v).halted = s.halted := rfl
@[simp] theorem setPpu_ie (s : State) (v : PpuState) : (s.setPpu v).ie = s.ie := rfl
@[simp] theorem setPpu_ifl (s : State) (v : PpuState) : (s.setPpu v).ifl = s.ifl := rfl
@[simp] theorem setPpu_div (s : State) (v : PpuState) : (s.setPpu v).div = s.div := rfl
@[simp] theorem setPpu_tima (s : State) (v : PpuState) : (s.setPpu v).tima = s.tima := rfl
@[simp] theorem setPpu_tma (s : State) (v : PpuState) : (s.setPpu v).tma = s.tma := rfl
@[simp] theorem setPpu_tac (s : State) (v : PpuState) : (s.setPpu v).tac = s.tac := rfl
@[simp] theorem setPpu_joypSel (s : State) (v : PpuState) : (s.setPpu v).joypSel = s.joypSel := rfl
@[simp] theorem setPpu_joy (s : State) (v : PpuState) : (s.setPpu v).joy = s.joy := rfl
@[simp] theorem setPpu_bootOff (s : State) (v : PpuState) : (s.setPpu v).bootOff = s.bootOff := rfl
@[simp] theorem setPpu_cycles (s : State) (v : PpuState) : (s.setPpu v).cycles = s.cycles := rfl
@[simp] theorem setPpu_lastTimerUpdate (s : State) (v : PpuState) : (s.setPpu v).lastTimerUpdate = s.lastTimerUpdate := rfl
@[simp] theorem setPpu_serialOut (s : State) (v : PpuState) : (s.setPpu v).serialOut = s.serialOut := rfl
@[simp] theorem setPpu_rom (s : State) (v : PpuState) : (s.setPpu v).rom = s.rom := rfl
@[simp] theorem setPpu_boot (s : State) (v : PpuState) : (s.setPpu v).boot = s.boot := rfl
@[simp] theorem setPpu_ppu (s : State) (v : PpuState) : (s.setPpu v).ppu = v := rfl
@[simp] theorem setPpu_xram (s : State) (v : PpuState) : (s.setPpu v).xram = s.xram := rfl
@[simp] theorem setPpu_wram (s : State) (v : PpuState) : (s.setPpu v).wram = s.wram := rfl
@[simp] theorem setPpu_oam (s : State) (v : PpuState) : (s.setPpu v).oam = s.oam := rfl
@[simp] theorem setPpu_io (s : State) (v : PpuState) : (s.setPpu v).io = s.io := rfl
@[simp] theorem setPpu_hram (s : State) (v : PpuState) : (s.setPpu v).hram = s.hram := rfl
@[simp] theorem setPpu_faulted (s : State) (v : PpuState) : (s.setPpu v).faulted = s.faulted := rfl
@[simp] theorem setPpu_joyInput (s : State) (v : PpuState) : (s.setPpu v).joyInput = s.joyInput := rfl
@[simp] theorem setPpu_params (s : State) (v : PpuState) : (s.setPpu v).params = s.params := rfl
@[simp] theorem setPpu_setPpu (s : State) (v w : PpuState) : (s.setPpu v).setPpu w = s.setPpu w := rfl
@[simp] theorem setPpu_reg (s : State) (v : PpuState) (r : Reg8) : (s.setPpu v).reg r = s.reg r := by cases r <;> rfl
@[simp] theorem setPpu_pair (s : State) (v : PpuState) (rr : Reg16) : (s.setPpu v).pair rr = s.pair rr := by cases rr <;> rfl
@[simp] theorem setPpu_hl (s : State) (v : PpuState) : (s.setPpu v).hl = s.hl := rfl

/-! ### setXram -/

@[simp] theorem setXram_regs (s : State) (v : Memory) : (s.setXram v).regs = s.regs := rfl
@[simp] theorem setXram_flags (s : State) (v : Memory) : (s.setXram v).flags = s.flags := rfl
@[simp] theorem setXram_sp (s : State) (v : Memory) : (s.setXram v).sp = s.sp := rfl
@[simp] theorem setXram_pc (s : State) (v : Memory) : (s.setXram v).pc = s.pc := rfl
@[simp] theorem setXram_ime (s : State) (v : Memory) : (s.setXram v).ime = s.ime := rfl
@[simp] theorem setXram_halted (s : State) (v : Memory) : (s.setXram v).halted = s.halted := rfl
@[simp] theorem setXram_ie (s : State) (v : Memory) : (s.setXram v).ie = s.ie := rfl
@[simp] theorem setXram_ifl (s : State) (v : Memory) : (s.setXram v).ifl = s.ifl := rfl
@[simp] theorem setXram_div (s : State) (v : Memory) : (s.setXram v).div = s.div := rfl
@[simp] theorem setXram_tima (s : State) (v : Memory) : (s.setXram v).tima = s.tima := rfl
@[simp] theorem setXram_tma (s : State) (v : Memory) : (s.setXram v).tma = s.tma := rfl
@[simp] theorem setXram_tac (s : State) (v : Memory) : (s.setXram v).tac = s.tac := rfl
@[simp] theorem setXram_joypSel (s : State) (v : Memory) : (s.setXram v).joypSel = s.joypSel := rfl
@[simp] theorem setXram_joy (s : State) (v : Memory) : (s.setXram v).joy = s.joy := rfl
@[simp] theorem setXram_bootOff (s : State) (v : Memory) : (s.setXram v).bootOff = s.bootOff := rfl
@[simp] theorem setXram_cycles (s : State) (v : Memory) : (s.setXram v).cycles = s.cycles := rfl
@[simp] theorem setXram_lastTimerUpdate (s : State) (v : Memory) : (s.setXram v).lastTimerUpdate = s.lastTimerUpdate := rfl
@[simp] theorem setXram_serialOut (s : State) (v : Memory) : (s.setXram v).serialOut = s.serialOut := rfl
@[simp] theorem setXram_rom (s : State) (v : Memory) : (s.setXram v).rom = s.rom := rfl
@[simp] theorem setXram_boot (s : State) (v : Memory) : (s.setXram v).boot = s.boot := rfl
@[simp] theorem setXram_ppu (s : State) (v : Memory) : (s.setXram v).ppu = s.ppu := rfl
@[simp] theorem setXram_xram (s : State) (v : Memory) : (s.setXram v).xram = v := rfl
@[simp] theorem setXram_wram (s : State) (v : Memory) : (s.setXram v).wram = s.wram := rfl
@[simp] theorem setXram_oam (s : State) (v : Memory) : (s.setXram v).oam = s.oam := rfl
@[simp] theorem setXram_io (s : State) (v : Memory) : (s.setXram v).io = s.io := rfl
@[simp] theorem setXram_hram (s : State) (v : Memory) : (s.setXram v).hram = s.hram := rfl
@[simp] theorem setXram_faulted (s : State) (v : Memory) : (s.setXram v).faulted = s.faulted := rfl
@[simp] theorem setXram_joyInput (s : State) (v : Memory) : (s.setXram v).joyInput = s.joyInput := rfl
@[simp] theorem setXram_params (s : State) (v : Memory) : (s.setXram v).params = s.params := rfl
@[simp] theorem setXram_setXram (s : State) (v w : Memory) : (s.setXram v).setXram w = s.setXram w := rfl
@[simp] theorem setXram_reg (s : State) (v : Memory) (r : Reg8) : (s.setXram v).reg r = s.reg r := by cases r <;> rfl
@[simp] theorem setXram_pair (s : State) (v : Memory) (rr : Reg16) : (s.setXram v).pair rr = s.pair rr := by cases rr <;> rfl
@[simp] theorem setXram_hl (s : State) (v : Memory) : (s.setXram v).hl = s.hl := rfl

/-! ### setWram -/

@[simp] theorem setWram_regs (s : State) (v : Memory) : (s.setWram v).regs = s.regs := rfl
@[simp] theorem setWram_flags (s : State) (v : Memory) : (s.setWram v).flags = s.flags := rfl
@[simp] theorem setWram_sp (s : State) (v : Memory) : (s.setWram v).sp = s.sp := rfl
@[simp] theorem setWram_pc (s : State) (v : Memory) : (s.setWram v).pc = s.pc := rfl
@[simp] theorem setWram_ime (s : State) (v : Memory) : (s.setWram v).ime = s.ime := rfl
@[simp] theorem setWram_halted (s : State) (v : Memory) : (s.setWram v).halted = s.halted := rfl
@[simp] theorem setWram_ie (s : State) (v : Memory) : (s.setWram v).ie = s.ie := rfl
@[simp] theorem setWram_ifl (s : State) (v : Memory) : (s.setWram v).ifl = s.ifl := rfl
@[simp] theorem setWram_div (s : State) (v : Memory) : (s.setWram v).div = s.div := rfl
@[simp] theorem setWram_tima (s : State) (v : Memory) : (s.setWram v).tima = s.tima := rfl
@[simp] theorem setWram_tma (s : State) (v : Memory) : (s.setWram v).tma = s.tma := rfl
@[simp] theorem setWram_tac (s : State) (v : Memory) : (s.setWram v).tac = s.tac := rfl
@[simp] theorem setWram_joypSel (s : State) (v : Memory) : (s.setWram v).joypSel = s.joypSel := rfl
@[simp] theorem setWram_joy (s : State) (v : Memory) : (s.setWram v).joy = s.joy := rfl
@[simp] theorem setWram_bootOff (s : State) (v : Memory) : (s.setWram v).bootOff = s.bootOff := rfl
@[simp] theorem setWram_cycles (s : State) (v : Memory) : (s.setWram v).cycles = s.cycles := rfl
@[simp] theorem setWram_lastTimerUpdate (s : State) (v : Memory) : (s.setWram v).lastTimerUpdate = s.lastTimerUpdate := rfl
@[simp] theorem setWram_serialOut (s : State) (v : Memory) : (s.setWram v).serialOut = s.serialOut := rfl
@[simp] theorem setWram_rom (s : State) (v : Memory) : (s.setWram v).rom = s.rom := rfl
@[simp] theorem setWram_boot (s : State) (v : Memory) : (s.setWram v).boot = s.boot := rfl
@[simp] theorem setWram_ppu (s : State) (v : Memory) : (s.setWram v).ppu = s.ppu := rfl
@[simp] theorem setWram_xram (s : State) (v : Memory) : (s.setWram v).xram = s.xram := rfl
@[simp] theorem setWram_wram (s : State) (v : Memory) : (s.setWram v).wram = v := rfl
@[simp] theorem setWram_oam (s : State) (v : Memory) : (s.setWram v).oam = s.oam := rfl
@[simp] theorem setWram_io (s : State) (v : Memory) : (s.setWram v).io = s.io := rfl
@[simp] theorem setWram_hram (s : State) (v : Memory) : (s.setWram v).hram = s.hram := rfl
@[simp] theorem setWram_faulted (s : State) (v : Memory) : (s.setWram v).faulted = s.faulted := rfl
@[simp] theorem setWram_joyInput (s : State) (v : Memory) : (s.setWram v).joyInput = s.joyInput := rfl
@[simp] theorem setWram_params (s : State) (v : Memory) : (s.setWram v).params = s.params := rfl
@[simp] theorem setWram_setWram (s : State) (v w : Memory) : (s.setWram v).setWram w = s.setWram w := rfl
@[simp] theorem setWram_reg (s : State) (v : Memory) (r : Reg8) : (s.setWram v).reg r = s.reg r := by cases r <;> rfl
@[simp] theorem setWram_pair (s : State) (v : Memory) (rr : Reg16) : (s.setWram v).pair rr = s.pair rr := by cases rr <;> rfl
@[simp] theorem setWram_hl (s : State) (v : Memory) : (s.setWram v).hl = s.hl := rfl

/-! ### setOam -/

@[simp] theorem setOam_regs (s : State) (v : Memory) : (s.setOam v).regs = s.regs := rfl
@[simp] theorem setOam_flags (s : State) (v : Memory) : (s.setOam v).flags = s.flags := rfl
@[simp] theorem setOam_sp (s : State) (v : Memory) : (s.setOam v).sp = s.sp := rfl
@[simp] theorem setOam_pc (s : State) (v : Memory) : (s.setOam v).pc = s.pc := rfl
@[simp] theorem setOam_ime (s : State) (v : Memory) : (s.setOam v).ime = s.ime := rfl
@[simp] theorem setOam_halted (s : State) (v : Memory) : (s.setOam v).halted = s.halted := rfl
@[simp] theorem setOam_ie (s : State) (v : Memory) : (s.setOam v).ie = s.ie := rfl
@[simp] theorem setOam_ifl (s : State) (v : Memory) : (s.setOam v).ifl = s.ifl := rfl
@[simp] theorem setOam_div (s : State) (v : Memory) : (s.setOam v).div = s.div := rfl
@[simp] theorem setOam_tima (s : State) (v : Memory) : (s.setOam v).tima = s.tima := rfl
@[simp] theorem setOam_tma (s : State) (v : Memory) : (s.setOam v).tma = s.tma := rfl
@[simp] theorem setOam_tac (s : State) (v : Memory) : (s.setOam v).tac = s.tac := rfl
@[simp] theorem setOam_joypSel (s : State) (v : Memory) : (s.setOam v).joypSel = s.joypSel := rfl
@[simp] theorem setOam_joy (s : State) (v : Memory) : (s.setOam v).joy = s.joy := rfl
@[simp] theorem setOam_bootOff (s : State) (v : Memory) : (s.setOam v).bootOff = s.bootOff := rfl
@[simp] theorem setOam_cycles (s : State) (v : Memory) : (s.setOam v).cycles = s.cycles := rfl
@[simp] theorem setOam_lastTimerUpdate (s : State) (v : Memory) : (s.setOam v).lastTimerUpdate = s.lastTimerUpdate := rfl
@[simp] theorem setOam_serialOut (s : State) (v : Memory) : (s.setOam v).serialOut = s.serialOut := rfl
@[simp] theorem setOam_rom (s : State) (v : Memory) : (s.setOam v).rom = s.rom := rfl
@[simp] theorem setOam_boot (s : State) (v : Memory) : (s.setOam v).boot = s.boot := rfl
@[simp] theorem setOam_ppu (s : State) (v : Memory) : (s.setOam v).ppu = s.ppu := rfl
@[simp] theorem setOam_xram (s : State) (v : Memory) : (s.setOam v).xram = s.xram := rfl
@[simp] theorem setOam_wram (s : State) (v : Memory) : (s.setOam v).wram = s.wram := rfl
@[simp] theorem setOam_oam (s : State) (v : Memory) : (s.setOam v).oam = v := rfl
@[simp] theorem setOam_io (s : State) (v : Memory) : (s.setOam v).io = s.io := rfl
@[simp] theorem setOam_hram (s : State) (v : Memory) : (s.setOam v).hram = s.hram := rfl
@[simp] theorem setOam_faulted (s : State) (v : Memory) : (s.setOam v).faulted = s.faulted := rfl
@[simp] theorem setOam_joyInput (s : State) (v : Memory) : (s.setOam v).joyInput = s.joyInput := rfl
@[simp] theorem setOam_params (s : State) (v : Memory) : (s.setOam v).params = s.params := rfl
@[simp] theorem setOam_setOam (s : State) (v w : Memory) : (s.setOam v).setOam w = s.setOam w := rfl
@[simp] theorem setOam_reg (s : State) (v : Memory) (r : Reg8) : (s.setOam v).reg r = s.reg r := by cases r <;> rfl
@[simp] theorem setOam_pair (s : State) (v : Memory) (rr : Reg16) : (s.setOam v).pair rr = s.pair rr := by cases rr <;> rfl
@[simp] theorem setOam_hl (s : State) (v : Memory) : (s.setOam v).hl = s.hl := rfl

/-! ### setIo -/

@[simp] theorem setIo_regs (s : State) (v : Memory) : (s.setIo v).regs = s.regs := rfl
@[simp] theorem setIo_flags (s : State) (v : Memory) : (s.setIo v).flags = s.flags := rfl
@[simp] theorem setIo_sp (s : State) (v : Memory) : (s.setIo v).sp = s.sp := rfl
@[simp] theorem setIo_pc (s : State) (v : Memory) : (s.setIo v).pc = s.pc := rfl
@[simp] theorem setIo_ime (s : State) (v : Memory) : (s.setIo v).ime = s.ime := rfl
@[simp] theorem setIo_halted (s : State) (v : Memory) : (s.setIo v).halted = s.halted := rfl
@[simp] theorem setIo_ie (s : State) (v : Memory) : (s.setIo v).ie = s.ie := rfl
@[simp] theorem setIo_ifl (s : State) (v : Memory) : (s.setIo v).ifl = s.ifl := rfl
@[simp] theorem setIo_div (s : State) (v : Memory) : (s.setIo v).div = s.div := rfl
@[simp] theorem setIo_tima (s : State) (v : Memory) : (s.setIo v).tima = s.tima := rfl
@[simp] theorem setIo_tma (s : State) (v : Memory) : (s.setIo v).tma = s.tma := rfl
@[simp] theorem setIo_tac (s : State) (v : Memory) : (s.setIo v).tac = s.tac := rfl
@[simp] theorem setIo_joypSel (s : State) (v : Memory) : (s.setIo v).joypSel = s.joypSel := rfl
@[simp] theorem setIo_joy (s : State) (v : Memory) : (s.setIo v).joy = s.joy := rfl
@[simp] theorem setIo_bootOff (s : State) (v : Memory) : (s.setIo v).bootOff = s.bootOff := rfl
@[simp] theorem setIo_cycles (s : State) (v : Memory) : (s.setIo v).cycles = s.cycles := rfl
@[simp] theorem setIo_lastTimerUpdate (s : State) (v : Memory) : (s.setIo v).lastTimerUpdate = s.lastTimerUpdate := rfl
@[simp] theorem setIo_serialOut (s : State) (v : Memory) : (s.setIo v).serialOut = s.serialOut := rfl
@[simp] theorem setIo_rom (s : State) (v : Memory) : (s.setIo v).rom = s.rom := rfl
@[simp] theorem setIo_boot (s : State) (v : Memory) : (s.setIo v).boot = s.boot := rfl
@[simp] theorem setIo_ppu (s : State) (v : Memory) : (s.setIo v).ppu = s.ppu := rfl
@[simp] theorem setIo_xram (s : State) (v : Memory) : (s.setIo v).xram = s.xram := rfl
@[simp] theorem setIo_wram (s : State) (v : Memory) : (s.setIo v).wram = s.wram := rfl
@[simp] theorem setIo_oam (s : State) (v : Memory) : (s.setIo v).oam = s.oam := rfl
@[simp] theorem setIo_io (s : State) (v : Memory) : (s.setIo v).io = v := rfl
@[simp] theorem setIo_hram (s : State) (v : Memory) : (s.setIo v).hram = s.hram := rfl
@[simp] theorem setIo_faulted (s : State) (v : Memory) : (s.setIo v).faulted = s.faulted := rfl
@[simp] theorem setIo_joyInput (s : State) (v : Memory) : (s.setIo v).joyInput = s.joyInput := rfl
@[simp] theorem setIo_params (s : State) (v : Memory) : (s.setIo v).params = s.params := rfl
@[simp] theorem setIo_setIo (s : State) (v w : Memory) : (s.setIo v).setIo w = s.setIo w := rfl
@[simp] theorem setIo_reg (s : State) (v : Memory) (r : Reg8) : (s.setIo v).reg r = s.reg r := by cases r <;> rfl
@[simp] theorem setIo_pair (s : State) (v : Memory) (rr : Reg16) : (s.setIo v).pair rr = s.pair rr := by cases rr <;> rfl
@[simp] theorem setIo_hl (s : State) (v : Memory) : (s.setIo v).hl = s.hl := rfl

/-! ### setHram -/

@[simp] theorem setHram_regs (s : State) (v : Memory) : (s.setHram v).regs = s.regs := rfl
@[simp] theorem setHram_flags (s : State) (v : Memory) : (s.setHram v).flags = s.flags := rfl
@[simp] theorem setHram_sp (s : State) (v : Memory) : (s.setHram v).sp = s.sp := rfl
@[simp] theorem setHram_pc (s : State) (v : Memory) : (s.setHram v).pc = s.pc := rfl
@[simp] theorem setHram_ime (s : State) (v : Memory) : (s.setHram v).ime = s.ime := rfl
@[simp] theorem setHram_halted (s : State) (v : Memory) : (s.setHram v).halted = s.halted := rfl
@[simp] theorem setHram_ie (s : State) (v : Memory) : (s.setHram v).ie = s.ie := rfl
@[simp] theorem setHram_ifl (s : State) (v : Memory) : (s.setHram v).ifl = s.ifl := rfl
@[simp] theorem setHram_div (s : State) (v : Memory) : (s.setHram v).div = s.div := rfl
@[simp] theorem setHram_tima (s : State) (v : Memory) : (s.setHram v).tima = s.tima := rfl
@[simp] theorem setHram_tma (s : State) (v : Memory) : (s.setHram v).tma = s.tma := rfl
@[simp] theorem setHram_tac (s : State) (v : Memory) : (s.setHram v).tac = s.tac := rfl
@[simp] theorem setHram_joypSel (s : State) (v : Memory) : (s.setHram v).joypSel = s.joypSel := rfl
@[simp] theorem setHram_joy (s : State) (v : Memory) : (s.setHram v).joy = s.joy := rfl
@[simp] theorem setHram_bootOff (s : State) (v : Memory) : (s.setHram v).bootOff = s.bootOff := rfl
@[simp] theorem setHram_cycles (s : State) (v : Memory) : (s.setHram v).cycles = s.cycles := rfl
@[simp] theorem setHram_lastTimerUpdate (s : State) (v : Memory) : (s.setHram v).lastTimerUpdate = s.lastTimerUpdate := rfl
@[simp] theorem setHram_serialOut (s : State) (v : Memory) : (s.setHram v).serialOut = s.serialOut := rfl
@[simp] theorem setHram_rom (s : State) (v : Memory) : (s.setHram v).rom = s.rom := rfl
@[simp] theorem setHram_boot (s : State) (v : Memory) : (s.setHram v).boot = s.boot := rfl
@[simp] theorem setHram_ppu (s : State) (v : Memory) : (s.setHram v).ppu = s.ppu := rfl
@[simp] theorem setHram_xram (s : State) (v : Memory) : (s.setHram v).xram = s.xram := rfl
@[simp] theorem setHram_wram (s : State) (v : Memory) : (s.setHram v).wram = s.wram := rfl
@[simp] theorem setHram_oam (s : State) (v : Memory) : (s.setHram v).oam = s.oam := rfl
@[simp] theorem setHram_io (s : State) (v : Memory) : (s.setHram v).io = s.io := rfl
@[simp] theorem setHram_hram (s : State) (v : Memory) : (s.setHram v).hram = v := rfl
@[simp] theorem setHram_faulted (s : State) (v : Memory) : (s.setHram v).faulted = s.faulted := rfl
@[simp] theorem setHram_joyInput (s : State) (v : Memory) : (s.setHram v).joyInput = s.joyInput := rfl
@[simp] theorem setHram_params (s : State) (v : Memory) : (s.setHram v).params = s.params := rfl
@[simp] theorem setHram_setHram (s : State) (v w : Memory) : (s.setHram v).setHram w = s.setHram w := rfl
@[simp] theorem setHram_reg (s : State) (v : Memory) (r : Reg8) : (s.setHram v).reg r = s.reg r := by cases r <;> rfl
@[simp] theorem setHram_pair (s : State) (v : Memory) (rr : Reg16) : (s.setHram v).pair rr = s.pair rr := by cases rr <;> rfl
@[simp] theorem setHram_hl (s : State) (v : Memory) : (s.setHram v).hl = s.hl := rfl

/-! ### setFaulted -/

@[simp] theorem setFaulted_regs (s : State) (v : Bool) : (s.setFaulted v).regs = s.regs := rfl
@[simp] theorem setFaulted_flags (s : State) (v : Bool) : (s.setFaulted v).flags = s.flags := rfl
@[simp] theorem setFaulted_sp (s : State) (v : Bool) : (s.setFaulted v).sp = s.sp := rfl
@[simp] theorem setFaulted_pc (s : State) (v : Bool) : (s.setFaulted v).pc = s.pc := rfl
@[simp] theorem setFaulted_ime (s : State) (v : Bool) : (s.setFaulted v).ime = s.ime := rfl
@[simp] theorem setFaulted_halted (s : State) (v : Bool) : (s.setFaulted v).halted = s.halted := rfl
@[simp] theorem setFaulted_ie (s : State) (v : Bool) : (s.setFaulted v).ie = s.ie := rfl
@[simp] theorem setFaulted_ifl (s : State) (v : Bool) : (s.setFaulted v).ifl = s.ifl := rfl
@[simp] theorem setFaulted_div (s : State) (v : Bool) : (s.setFaulted v).div = s.div := rfl
@[simp] theorem setFaulted_tima (s : State) (v : Bool) : (s.setFaulted v).tima = s.tima := rfl
@[simp] theorem setFaulted_tma (s : State) (v : Bool) : (s.setFaulted v).tma = s.tma := rfl
@[simp] theorem setFaulted_tac (s : State) (v : Bool) : (s.setFaulted v).tac = s.tac := rfl
@[simp] theorem setFaulted_joypSel (s : State) (v : Bool) : (s.setFaulted v).joypSel = s.joypSel := rfl
@[simp] theorem setFaulted_joy (s : State) (v : Bool) : (s.setFaulted v).joy = s.joy := rfl
@[simp] theorem setFaulted_bootOff (s : State) (v : Bool) : (s.setFaulted v).bootOff = s.bootOff := rfl
@[simp] theorem setFaulted_cycles (s : State) (v : Bool) : (s.setFaulted v).cycles = s.cycles := rfl
@[simp] theorem setFaulted_lastTimerUpdate (s : State) (v : Bool) : (s.setFaulted v).lastTimerUpdate = s.lastTimerUpdate := rfl
@[simp] theorem setFaulted_serialOut (s : State) (v : Bool) : (s.setFaulted v).serialOut = s.serialOut := rfl
@[simp] theorem setFaulted_rom (s : State) (v : Bool) : (s.setFaulted v).rom = s.rom := rfl
@[simp] theorem setFaulted_boot (s : State) (v : Bool) : (s.setFaulted v).boot = s.boot := rfl
@[simp] theorem setFaulted_ppu (s : State) (v : Bool) : (s.setFaulted v).ppu = s.ppu := rfl
@[simp] theorem setFaulted_xram (s : State) (v : Bool) : (s.setFaulted v).xram = s.xram := rfl
@[simp] theorem setFaulted_wram (s : State) (v : Bool) : (s.setFaulted v).wram = s.wram := rfl
@[simp] theorem setFaulted_oam (s : State) (v : Bool) : (s.setFaulted v).oam = s.oam := rfl
@[simp] theorem setFaulted_io (s : State) (v : Bool) : (s.setFaulted v).io = s.io := rfl
@[simp] theorem setFaulted_hram (s : State) (v : Bool) : (s.setFaulted v).hram = s.hram := rfl
@[simp] theorem setFaulted_faulted (s : State) (v : Bool) : (s.setFaulted v).faulted = v := rfl
@[simp] theorem setFaulted_joyInput (s : State) (v : Bool) : (s.setFaulted v).joyInput = s.joyInput := rfl
@[simp] theorem setFaulted_params (s : State) (v : Bool) : (s.setFaulted v).params = s.params := rfl
@[simp] theorem setFaulted_setFaulted (s : State) (v w : Bool) : (s.setFaulted v).setFaulted w = s.setFaulted w := rfl
@[simp] theorem setFaulted_reg (s : State) (v : Bool) (r : Reg8) : (s.setFaulted v).reg r = s.reg r := by cases r <;> rfl
@[simp] theorem setFaulted_pair (s : State) (v : Bool) (rr : Reg16) : (s.setFaulted v).pair rr = s.pair rr := by cases rr <;> rfl
@[simp] theorem setFaulted_hl (s : State) (v : Bool) : (s.setFaulted v).hl = s.hl := rfl

/-! ### setJoyInput -/

@[simp] theorem setJoyInput_regs (s : State) (v : List (Option Joypad)) : (s.setJoyInput v).regs = s.regs := rfl
@[simp] theorem setJoyInput_flags (s : State) (v : List (Option Joypad)) : (s.setJoyInput v).flags = s.flags := rfl
@[simp] theorem setJoyInput_sp (s : State) (v : List (Option Joypad)) : (s.setJoyInput v).sp = s.sp := rfl
@[simp] theorem setJoyInput_pc (s : State) (v : List (Option Joypad)) : (s.setJoyInput v).pc = s.pc := rfl
@[simp] theorem setJoyInput_ime (s : State) (v : List (Option Joypad)) : (s.setJoyInput v).ime = s.ime := rfl
@[simp] theorem setJoyInput_halted (s : State) (v : List (Option Joypad)) : (s.setJoyInput v).halted = s.halted := rfl
@[simp] theorem setJoyInput_ie (s : State) (v : List (Option Joypad)) : (s.setJoyInput v).ie = s.ie := rfl
@[simp] theorem setJoyInput_ifl (s : State) (v : List (Option Joypad)) : (s.setJoyInput v).ifl = s.ifl := rfl
@[simp] theorem setJoyInput_div (s : State) (v : List (Option Joypad)) : (s.setJoyInput v).div = s.div := rfl
@[simp] theorem setJoyInput_tima (s : State) (v : List (Option Joypad)) : (s.setJoyInput v).tima = s.tima := rfl
@[simp] theorem setJoyInput_tma (s : State) (v : List (Option Joypad)) : (s.setJoyInput v).tma = s.tma := rfl
@[simp] theorem setJoyInput_tac (s : State) (v : List (Option Joypad)) : (s.setJoyInput v).tac = s.tac := rfl
@[simp] theorem setJoyInput_joypSel (s : State) (v : List (Option Joypad)) : (s.setJoyInput v).joypSel = s.joypSel := rfl
@[simp] theorem setJoyInput_joy (s : State) (v : List (Option Joypad)) : (s.setJoyInput v).joy = s.joy := rfl
@[simp] theorem setJoyInput_bootOff (s : State) (v : List (Option Joypad)) : (s.setJoyInput v).bootOff = s.bootOff := rfl
@[simp] theorem setJoyInput_cycles (s : State) (v : List (Option Joypad)) : (s.setJoyInput v).cycles = s.cycles := rfl
@[simp] theorem setJoyInput_lastTimerUpdate (s : State) (v : List (Option Joypad)) : (s.setJoyInput v).lastTimerUpdate = s.lastTimerUpdate := rfl
@[simp] theorem setJoyInput_serialOut (s : State) (v : List (Option Joypad)) : (s.setJoyInput v).serialOut = s.serialOut := rfl
@[simp] theorem setJoyInput_rom (s : State) (v : List (Option Joypad)) : (s.setJoyInput v).rom = s.rom := rfl
@[simp] theorem setJoyInput_boot (s : State) (v : List (Option Joypad)) : (s.setJoyInput v).boot = s.boot := rfl
@[simp] theorem setJoyInput_ppu (s : State) (v : List (Option Joypad)) : (s.setJoyInput v).ppu = s.ppu := rfl
@[simp] theorem setJoyInput_xram (s : State) (v : List (Option Joypad)) : (s.setJoyInput v).xram = s.xram := rfl
@[simp] theorem setJoyInput_wram (s : State) (v : List (Option Joypad)) : (s.setJoyInput v).wram = s.wram := rfl
@[simp] theorem setJoyInput_oam (s : State) (v : List (Option Joypad)) : (s.setJoyInput v).oam = s.oam := rfl
@[simp] theorem setJoyInput_io (s : State) (v : List (Option Joypad)) : (s.setJoyInput v).io = s.io := rfl
@[simp] theorem setJoyInput_hram (s : State) (v : List (Option Joypad)) : (s.setJoyInput v).hram = s.hram := rfl
@[simp] theorem setJoyInput_faulted (s : State) (v : List (Option Joypad)) : (s.setJoyInput v).faulted = s.faulted := rfl
@[simp] theorem setJoyInput_joyInput (s : State) (v : List (Option Joypad)) : (s.setJoyInput v).joyInput = v := rfl
@[simp] theorem setJoyInput_params (s : State) (v : List (Option Joypad)) : (s.setJoyInput v).params = s.params := rfl
@[simp] theorem setJoyInput_setJoyInput (s : State) (v w : List (Option Joypad)) : (s.setJoyInput v).setJoyInput w = s.setJoyInput w := rfl
@[simp] theorem setJoyInput_reg (s : State) (v : List (Option Joypad)) (r : Reg8) : (s.setJoyInput v).reg r = s.reg r := by cases r <;> rfl
@[simp] theorem setJoyInput_pair (s : State) (v : List (Option Joypad)) (rr : Reg16) : (s.setJoyInput v).pair rr = s.pair rr := by cases rr <;> rfl
@[simp] theorem setJoyInput_hl (s : State) (v : List (Option Joypad)) : (s.setJoyInput v).hl = s.hl := rfl

/-! ### charge and setReg -/

@[simp] theorem charge_regs (s : State) (n : Nat) : (s.charge n).regs = s.regs := rfl
@[simp] theorem charge_flags (s : State) (n : Nat) : (s.charge n).flags = s.flags := rfl
@[simp] theorem charge_sp (s : State) (n : Nat) : (s.charge n).sp = s.sp := rfl
@[simp] theorem charge_pc (s : State) (n : Nat) : (s.charge n).pc = s.pc := rfl
@[simp] theorem charge_ime (s : State) (n : Nat) : (s.charge n).ime = s.ime := rfl
@[simp] theorem charge_halted (s : State) (n : Nat) : (s.charge n).halted = s.halted := rfl
@[simp] theorem charge_ie (s : State) (n : Nat) : (s.charge n).ie = s.ie := rfl
@[simp] theorem charge_ifl (s : State) (n : Nat) : (s.charge n).ifl = s.ifl := rfl
@[simp] theorem charge_div (s : State) (n : Nat) : (s.charge n).div = s.div := rfl
@[simp] theorem charge_tima (s : State) (n : Nat) : (s.charge n).tima = s.tima := rfl
@[simp] theorem charge_tma (s : State) (n : Nat) : (s.charge n).tma = s.tma := rfl
@[simp] theorem charge_tac (s : State) (n : Nat) : (s.charge n).tac = s.tac := rfl
@[simp] theorem charge_joypSel (s : State) (n : Nat) : (s.charge n).joypSel = s.joypSel := rfl
@[simp] theorem charge_joy (s : State) (n : Nat) : (s.charge n).joy = s.joy := rfl
@[simp] theorem charge_bootOff (s : State) (n : Nat) : (s.charge n).bootOff = s.bootOff := rfl
@[simp] theorem charge_cycles (s : State) (n : Nat) : (s.charge n).cycles = s.cycles + n := rfl
@[simp] theorem charge_lastTimerUpdate (s : State) (n : Nat) : (s.charge n).lastTimerUpdate = s.lastTimerUpdate := rfl
@[simp] theorem charge_serialOut (s : State) (n : Nat) : (s.charge n).serialOut = s.serialOut := rfl
@[simp] theorem charge_rom (s : State) (n : Nat) : (s.charge n).rom = s.rom := rfl
@[simp] theorem charge_boot (s : State) (n : Nat) : (s.charge n).boot = s.boot := rfl
@[simp] theorem charge_ppu (s : State) (n : Nat) : (s.charge n).ppu = s.ppu := rfl
@[simp] theorem charge_xram (s : State) (n : Nat) : (s.charge n).xram = s.xram := rfl
@[simp] theorem charge_wram (s : State) (n : Nat) : (s.charge n).wram = s.wram := rfl
@[simp] theorem charge_oam (s : State) (n : Nat) : (s.charge n).oam = s.oam := rfl
@[simp] theorem charge_io (s : State) (n : Nat) : (s.charge n).io = s.io := rfl
@[simp] theorem charge_hram (s : State) (n : Nat) : (s.charge n).hram = s.hram := rfl
@[simp] theorem charge_faulted (s : State) (n : Nat) : (s.charge n).faulted = s.faulted := rfl
@[simp] theorem charge_joyInput (s : State) (n : Nat) : (s.charge n).joyInput = s.joyInput := rfl
@[simp] theorem charge_params (s : State) (n : Nat) : (s.charge n).params = s.params := rfl
@[simp] theorem charge_reg (s : State) (n : Nat) (r : Reg8) : (s.charge n).reg r = s.reg r := by cases r <;> rfl
@[simp] theorem charge_pair (s : State) (n : Nat) (rr : Reg16) : (s.charge n).pair rr = s.pair rr := by cases rr <;> rfl
@[simp] theorem charge_hl (s : State) (n : Nat) : (s.charge n).hl = s.hl := rfl
@[simp] theorem setReg_flags (s : State) (r : Reg8) (v : Byte) : (s.setReg r v).flags = s.flags := rfl
@[simp] theorem setReg_sp (s : State) (r : Reg8) (v : Byte) : (s.setReg r v).sp = s.sp := rfl
@[simp] theorem setReg_pc (s : State) (r : Reg8) (v : Byte) : (s.setReg r v).pc = s.pc := rfl
@[simp] theorem setReg_ime (s : State) (r : Reg8) (v : Byte) : (s.setReg r v).ime = s.ime := rfl
@[simp] theorem setReg_halted (s : State) (r : Reg8) (v : Byte) : (s.setReg r v).halted = s.halted := rfl
@[simp] theorem setReg_ie (s : State) (r : Reg8) (v : Byte) : (s.setReg r v).ie = s.ie := rfl
@[simp] theorem setReg_ifl (s : State) (r : Reg8) (v : Byte) : (s.setReg r v).ifl = s.ifl := rfl
@[simp] theorem setReg_div (s : State) (r : Reg8) (v : Byte) : (s.setReg r v).div = s.div := rfl
@[simp] theorem setReg_tima (s : State) (r : Reg8) (v : Byte) : (s.setReg r v).tima = s.tima := rfl
@[simp] theorem setReg_tma (s : State) (r : Reg8) (v : Byte) : (s.setReg r v).tma = s.tma := rfl
@[simp] theorem setReg_tac (s : State) (r : Reg8) (v : Byte) : (s.setReg r v).tac = s.tac := rfl
@[simp] theorem setReg_joypSel (s : State) (r : Reg8) (v : Byte) : (s.setReg r v).joypSel = s.joypSel := rfl
@[simp] theorem setReg_joy (s : State) (r : Reg8) (v : Byte) : (s.setReg r v).joy = s.joy := rfl
@[simp] theorem setReg_bootOff (s : State) (r : Reg8) (v : Byte) : (s.setReg r v).bootOff = s.bootOff := rfl
@[simp] theorem setReg_cycles (s : State) (r : Reg8) (v : Byte) : (s.setReg r v).cycles = s.cycles := rfl
@[simp] theorem setReg_lastTimerUpdate (s : State) (r : Reg8) (v : Byte) : (s.setReg r v).lastTimerUpdate = s.lastTimerUpdate := rfl
@[simp] theorem setReg_serialOut (s : State) (r : Reg8) (v : Byte) : (s.setReg r v).serialOut = s.serialOut := rfl
@[simp] theorem setReg_rom (s : State) (r : Reg8) (v : Byte) : (s.setReg r v).rom = s.rom := rfl
@[simp] theorem setReg_boot (s : State) (r : Reg8) (v : Byte) : (s.setReg r v).boot = s.boot := rfl
@[simp] theorem setReg_ppu (s : State) (r : Reg8) (v : Byte) : (s.setReg r v).ppu = s.ppu := rfl
@[simp] theorem setReg_xram (s : State) (r : Reg8) (v : Byte) : (s.setReg r v).xram = s.xram := rfl
@[simp] theorem setReg_wram (s : State) (r : Reg8) (v : Byte) : (s.setReg r v).wram = s.wram := rfl
@[simp] theorem setReg_oam (s : State) (r : Reg8) (v : Byte) : (s.setReg r v).oam = s.oam := rfl
@[simp] theorem setReg_io (s : State) (r : Reg8) (v : Byte) : (s.setReg r v).io = s.io := rfl
@[simp] theorem setReg_hram (s : State) (r : Reg8) (v : Byte) : (s.setReg r v).hram = s.hram := rfl
@[simp] theorem setReg_faulted (s : State) (r : Reg8) (v : Byte) : (s.setReg r v).faulted = s.faulted := rfl
@[simp] theorem setReg_joyInput (s : State) (r : Reg8) (v : Byte) : (s.setReg r v).joyInput = s.joyInput := rfl
@[simp] theorem setReg_params (s : State) (r : Reg8) (v : Byte) : (s.setReg r v).params = s.params := rfl

/-- A register reads what was last written to it, and a write to one leaves the others. -/
theorem reg_setReg (s : State) (r q : Reg8) (v : Byte) : (s.setReg r v).reg q = if q = r then v else s.reg q := by
  cases r <;> cases q <;> rfl

@[simp] theorem reg_setReg_same (s : State) (r : Reg8) (v : Byte) : (s.setReg r v).reg r = v := by
  simp [reg_setReg]

@[simp] theorem reg_setReg_other (s : State) {r q : Reg8} (v : Byte) (h : q ≠ r) : (s.setReg r v).reg q = s.reg q := by
  simp [reg_setReg, h]

/-! ### setPair -/

@[simp] theorem setPair_pc (s : State) (rr : Reg16) (v : Word) : (s.setPair rr v).pc = s.pc := by cases rr <;> rfl
@[simp] theorem setPair_ime (s : State) (rr : Reg16) (v : Word) : (s.setPair rr v).ime = s.ime := by cases rr <;> rfl
@[simp] theorem setPair_halted (s : State) (rr : Reg16) (v : Word) : (s.setPair rr v).halted = s.halted := by cases rr <;> rfl
@[simp] theorem setPair_ie (s : State) (rr : Reg16) (v : Word) : (s.setPair rr v).ie = s.ie := by cases rr <;> rfl
@[simp] theorem setPair_ifl (s : State) (rr : Reg16) (v : Word) : (s.setPair rr v).ifl = s.ifl := by cases rr <;> rfl
@[simp] theorem setPair_div (s : State) (rr : Reg16) (v : Word) : (s.setPair rr v).div = s.div := by cases rr <;> rfl
@[simp] theorem setPair_tima (s : State) (rr : Reg16) (v : Word) : (s.setPair rr v).tima = s.tima := by cases rr <;> rfl
@[simp] theorem setPair_tma (s : State) (rr : Reg16) (v : Word) : (s.setPair rr v).tma = s.tma := by cases rr <;> rfl
@[simp] theorem setPair_tac (s : State) (rr : Reg16) (v : Word) : (s.setPair rr v).tac = s.tac := by cases rr <;> rfl
@[simp] theorem setPair_joypSel (s : State) (rr : Reg16) (v : Word) : (s.setPair rr v).joypSel = s.joypSel := by cases rr <;> rfl
@[simp] theorem setPair_joy (s : State) (rr : Reg16) (v : Word) : (s.setPair rr v).joy = s.joy := by cases rr <;> rfl
@[simp] theorem setPair_bootOff (s : State) (rr : Reg16) (v : Word) : (s.setPair rr v).bootOff = s.bootOff := by cases rr <;> rfl
@[simp] theorem setPair_cycles (s : State) (rr : Reg16) (v : Word) : (s.setPair rr v).cycles = s.cycles := by cases rr <;> rfl
@[simp] theorem setPair_lastTimerUpdate (s : State) (rr : Reg16) (v : Word) : (s.setPair rr v).lastTimerUpdate = s.lastTimerUpdate := by cases rr <;> rfl
@[simp] theorem setPair_serialOut (s : State) (rr : Reg16) (v : Word) : (s.setPair rr v).serialOut = s.serialOut := by cases rr <;> rfl
@[simp] theorem setPair_rom (s : State) (rr : Reg16) (v : Word) : (s.setPair rr v).rom = s.rom := by cases rr <;> rfl
@[simp] theorem setPair_boot (s : State) (rr : Reg16) (v : Word) : (s.setPair rr v).boot = s.boot := by cases rr <;> rfl
@[simp] theorem setPair_ppu (s : State) (rr : Reg16) (v : Word) : (s.setPair rr v).ppu = s.ppu := by cases rr <;> rfl
@[simp] theorem setPair_xram (s : State) (rr : Reg16) (v : Word) : (s.setPair rr v).xram = s.xram := by cases rr <;> rfl
@[simp] theorem setPair_wram (s : State) (rr : Reg16) (v : Word) : (s.setPair rr v).wram = s.wram := by cases rr <;> rfl
@[simp] theorem setPair_oam (s : State) (rr : Reg16) (v : Word) : (s.setPair rr v).oam = s.oam := by cases rr <;> rfl
@[simp] theorem setPair_io (s : State) (rr : Reg16) (v : Word) : (s.setPair rr v).io = s.io := by cases rr <;> rfl
@[simp] theorem setPair_hram (s : State) (rr : Reg16) (v : Word) : (s.setPair rr v).hram = s.hram := by cases rr <;> rfl
@[simp] theorem setPair_faulted (s : State) (rr : Reg16) (v : Word) : (s.setPair rr v).faulted = s.faulted := by cases rr <;> rfl
@[simp] theorem setPair_joyInput (s : State) (rr : Reg16) (v : Word) : (s.setPair rr v).joyInput = s.joyInput := by cases rr <;> rfl
@[simp] theorem setPair_params (s : State) (rr : Reg16) (v : Word) : (s.setPair rr v).params = s.params := by cases rr <;> rfl

theorem setPair_flags (s : State) (rr : Reg16) (v : Word) (h : rr ≠ .af) : (s.setPair rr v).flags = s.flags := by
  cases rr <;> first | rfl | exact absurd rfl h

theorem setPair_sp (s : State) (rr : Reg16) (v : Word) (h : rr ≠ .sp) : (s.setPair rr v).sp = s.sp := by
  cases rr <;> first | rfl | exact absurd rfl h

end Sys2Proof.Machine
end

