-- ==== Sys2Proof/Laws/Ops.lean ====
section
/-! SUPPORT. What each shared operation can do: the memory map, the stack and interrupt entry. -/

namespace Sys2Proof.Machine

/-! ## What a store leaves alone -/

@[simp] theorem memWrite_regs (s : State) (a : Word) (v : Byte) : (s.memWrite a v).regs = s.regs := by
  simp only [State.memWrite, State.writeIo]
  repeat' split
  all_goals rfl

@[simp] theorem memWrite_flags (s : State) (a : Word) (v : Byte) : (s.memWrite a v).flags = s.flags := by
  simp only [State.memWrite, State.writeIo]
  repeat' split
  all_goals rfl

@[simp] theorem memWrite_sp (s : State) (a : Word) (v : Byte) : (s.memWrite a v).sp = s.sp := by
  simp only [State.memWrite, State.writeIo]
  repeat' split
  all_goals rfl

@[simp] theorem memWrite_pc (s : State) (a : Word) (v : Byte) : (s.memWrite a v).pc = s.pc := by
  simp only [State.memWrite, State.writeIo]
  repeat' split
  all_goals rfl

@[simp] theorem memWrite_ime (s : State) (a : Word) (v : Byte) : (s.memWrite a v).ime = s.ime := by
  simp only [State.memWrite, State.writeIo]
  repeat' split
  all_goals rfl

@[simp] theorem memWrite_halted (s : State) (a : Word) (v : Byte) : (s.memWrite a v).halted = s.halted := by
  simp only [State.memWrite, State.writeIo]
  repeat' split
  all_goals rfl

@[simp] theorem memWrite_cycles (s : State) (a : Word) (v : Byte) : (s.memWrite a v).cycles = s.cycles := by
  simp only [State.memWrite, State.writeIo]
  repeat' split
  all_goals rfl

@[simp] theorem memWrite_lastTimerUpdate (s : State) (a : Word) (v : Byte) : (s.memWrite a v).lastTimerUpdate = s.lastTimerUpdate := by
  simp only [State.memWrite, State.writeIo]
  repeat' split
  all_goals rfl

@[simp] theorem memWrite_boot (s : State) (a : Word) (v : Byte) : (s.memWrite a v).boot = s.boot := by
  simp only [State.memWrite, State.writeIo]
  repeat' split
  all_goals rfl

@[simp] theorem memWrite_joy (s : State) (a : Word) (v : Byte) : (s.memWrite a v).joy = s.joy := by
  simp only [State.memWrite, State.writeIo]
  repeat' split
  all_goals rfl

@[simp] theorem memWrite_faulted (s : State) (a : Word) (v : Byte) : (s.memWrite a v).faulted = s.faulted := by
  simp only [State.memWrite, State.writeIo]
  repeat' split
  all_goals rfl

@[simp] theorem memWrite_params (s : State) (a : Word) (v : Byte) : (s.memWrite a v).params = s.params := by
  simp only [State.memWrite, State.writeIo]
  repeat' split
  all_goals rfl

@[simp] theorem memWrite_joyInput (s : State) (a : Word) (v : Byte) : (s.memWrite a v).joyInput = s.joyInput := by
  simp only [State.memWrite, State.writeIo]
  repeat' split
  all_goals rfl

@[simp] theorem memWrite_reg (s : State) (a : Word) (v : Byte) (r : Reg8) : (s.memWrite a v).reg r = s.reg r := by
  cases r <;> simp [State.reg]

@[simp] theorem memWrite_pair (s : State) (a : Word) (v : Byte) (rr : Reg16) : (s.memWrite a v).pair rr = s.pair rr := by
  cases rr <;> simp [State.pair]

@[simp] theorem memWrite_hl (s : State) (a : Word) (v : Byte) : (s.memWrite a v).hl = s.hl := memWrite_pair s a v .hl

/-! ## Updates a memory read does not see -/

@[simp] theorem memRead_setRegs (s : State) (w : Regs) (a : Word) : (s.setRegs w).memRead a = s.memRead a := rfl
@[simp] theorem memRead_setFlags (s : State) (w : Flags) (a : Word) : (s.setFlags w).memRead a = s.memRead a := rfl
@[simp] theorem memRead_setSp (s : State) (w : Word) (a : Word) : (s.setSp w).memRead a = s.memRead a := rfl
@[simp] theorem memRead_setPc (s : State) (w : Word) (a : Word) : (s.setPc w).memRead a = s.memRead a := rfl
@[simp] theorem memRead_setIme (s : State) (w : Bool) (a : Word) : (s.setIme w).memRead a = s.memRead a := rfl
@[simp] theorem memRead_setHalted (s : State) (w : Bool) (a : Word) : (s.setHalted w).memRead a = s.memRead a := rfl
@[simp] theorem memRead_setCycles (s : State) (w : Nat) (a : Word) : (s.setCycles w).memRead a = s.memRead a := rfl
@[simp] theorem memRead_setLastTimerUpdate (s : State) (w : Nat) (a : Word) : (s.setLastTimerUpdate w).memRead a = s.memRead a := rfl
@[simp] theorem memRead_setSerialOut (s : State) (w : List Byte) (a : Word) : (s.setSerialOut w).memRead a = s.memRead a := rfl
@[simp] theorem memRead_setFaulted (s : State) (w : Bool) (a : Word) : (s.setFaulted w).memRead a = s.memRead a := rfl
@[simp] theorem memRead_setJoyInput (s : State) (w : List (Option Joypad)) (a : Word) : (s.setJoyInput w).memRead a = s.memRead a := rfl
@[simp] theorem memRead_setReg (s : State) (r : Reg8) (w : Byte) (a : Word) : (s.setReg r w).memRead a = s.memRead a := rfl
@[simp] theorem memRead_charge (s : State) (n : Nat) (a : Word) : (s.charge n).memRead a = s.memRead a := rfl
@[simp] theorem memRead_setPair (s : State) (rr : Reg16) (w a : Word) : (s.setPair rr w).memRead a = s.memRead a := by
  cases rr <;> rfl

/-! ## Updates a store commutes with -/

theorem memWrite_setRegs (s : State) (w : Regs) (a : Word) (v : Byte) :
    (s.setRegs w).memWrite a v = (s.memWrite a v).setRegs w := by
  simp only [State.memWrite, State.writeIo]
  repeat' split
  all_goals rfl

theorem memWrite_setFlags (s : State) (w : Flags) (a : Word) (v : Byte) :
    (s.setFlags w).memWrite a v = (s.memWrite a v).setFlags w := by
  simp only [State.memWrite, State.writeIo]
  repeat' split
  all_goals rfl

theorem memWrite_setSp (s : State) (w : Word) (a : Word) (v : Byte) :
    (s.setSp w).memWrite a v = (s.memWrite a v).setSp w := by
  simp only [State.memWrite, State.writeIo]
  repeat' split
  all_goals rfl

theorem memWrite_setPc (s : State) (w : Word) (a : Word) (v : Byte) :
    (s.setPc w).memWrite a v = (s.memWrite a v).setPc w := by
  simp only [State.memWrite, State.writeIo]
  repeat' split
  all_goals rfl

theorem memWrite_setIme (s : State) (w : Bool) (a : Word) (v : Byte) :
    (s.setIme w).memWrite a v = (s.memWrite a v).setIme w := by
  simp only [State.memWrite, State.writeIo]
  repeat' split
  all_goals rfl

theorem memWrite_setHalted (s : State) (w : Bool) (a : Word) (v : Byte) :
    (s.setHalted w).memWrite a v = (s.memWrite a v).setHalted w := by
  simp only [State.memWrite, State.writeIo]
  repeat' split
  all_goals rfl

theorem memWrite_setCycles (s : State) (w : Nat) (a : Word) (v : Byte) :
    (s.setCycles w).memWrite a v = (s.memWrite a v).setCycles w := by
  simp only [State.memWrite, State.writeIo]
  repeat' split
  all_goals rfl

theorem memWrite_setLastTimerUpdate (s : State) (w : Nat) (a : Word) (v : Byte) :
    (s.setLastTimerUpdate w).memWrite a v = (s.memWrite a v).setLastTimerUpdate w := by
  simp only [State.memWrite, State.writeIo]
  repeat' split
  all_goals rfl

theorem memWrite_setFaulted (s : State) (w : Bool) (a : Word) (v : Byte) :
    (s.setFaulted w).memWrite a v = (s.memWrite a v).setFaulted w := by
  simp only [State.memWrite, State.writeIo]
  repeat' split
  all_goals rfl

theorem memWrite_setJoyInput (s : State) (w : List (Option Joypad)) (a : Word) (v : Byte) :
    (s.setJoyInput w).memWrite a v = (s.memWrite a v).setJoyInput w := by
  simp only [State.memWrite, State.writeIo]
  repeat' split
  all_goals rfl

/-! ## The stack -/

@[simp] theorem word_sub_one_sub_one (a : Word) : a - 1 - 1 = a - 2 := by
  rw [BitVec.sub_sub]; rfl

@[simp] theorem word_add_one_add_one (a : Word) : a + 1 + 1 = a + 2 := by
  rw [BitVec.add_assoc]; rfl

/-- A push stores the high byte at SP - 1 and the low byte at SP - 2 (41_load16_stack.md R230). -/
theorem push16_eq (s : State) (v : Word) :
    s.push16 v = ((s.memWrite (s.sp - 1) (hiByte v)).memWrite (s.sp - 2) (loByte v)).setSp (s.sp - 2) := by
  simp only [State.push16, memWrite_setSp, setSp_sp, setSp_setSp, word_sub_one_sub_one]

/-- A pop reads the low byte at SP and the high byte at SP + 1 (41_load16_stack.md R230). -/
theorem pop16_eq (s : State) :
    s.pop16 = (wordOf (s.memRead (s.sp + 1)) (s.memRead s.sp), s.setSp (s.sp + 2)) := by
  simp only [State.pop16, memRead_setSp, setSp_sp, setSp_setSp, word_add_one_add_one]

theorem popPc_eq (s : State) :
    s.popPc = (s.setSp (s.sp + 2)).setPc (wordOf (s.memRead (s.sp + 1)) (s.memRead s.sp)) := by
  simp only [State.popPc, pop16_eq]

@[simp] theorem wordOf_hiByte_loByte (v : Word) : wordOf (hiByte v) (loByte v) = v := by
  simp only [wordOf, hiByte, loByte]
  ext i hi
  rw [BitVec.getElem_append]
  grind

@[simp] theorem hiByte_wordOf (h l : Byte) : hiByte (wordOf h l) = h := by
  ext i hi
  have key : (h ++ l : BitVec (8 + 8)).getLsbD (8 + i) = h.getLsbD i := by
    rw [BitVec.getLsbD_append]; simp
  simpa [wordOf, hiByte, BitVec.getLsbD_eq_getElem hi] using key

@[simp] theorem loByte_wordOf (h l : Byte) : loByte (wordOf h l) = l := by
  ext i hi
  have key : (h ++ l : BitVec (8 + 8)).getLsbD i = l.getLsbD i := by
    rw [BitVec.getLsbD_append]; simp [hi]
  simpa [wordOf, loByte, BitVec.getLsbD_eq_getElem hi] using key

/-- A 16-bit register reads back what was written to it; AF loses bits 3..0 (10_state.md R22, R25). -/
theorem pair_setPair (s : State) (rr : Reg16) (v : Word) (h : rr ≠ .af) : (s.setPair rr v).pair rr = v := by
  cases rr
  · exact absurd rfl h
  all_goals first | exact wordOf_hiByte_loByte v | rfl

/-! ## Interrupt entry -/

/-- Every interrupt entry, field by field (60_exceptions.md R416, R417). -/
theorem enterHandler_eq (s : State) (src : IntSource) :
    s.enterHandler src =
      (((((s.memWrite (s.sp - 1) (hiByte s.pc)).memWrite (s.sp - 2) (loByte s.pc)).setSp (s.sp - 2)).setPc
        src.vector).setHalted false).setCycles (s.cycles + 20) := by
  simp [State.enterHandler, push16_eq, State.charge]

end Sys2Proof.Machine
end

