-- ==== Sys2Proof/Laws/Map.lean ====
section
/-! SUPPORT. The memory map read backwards: the addresses of each region (20_memory.md R61) and of each I/O register (R80), as
equivalences, and what a read and a store do in each. -/

namespace Sys2Proof.Machine

/-! ## The regions -/

/-- Every address with its region. -/
theorem classify_cases (a : Word) :
    (classify a = .romBank0 ∧ 0x0000 ≤ a.toNat ∧ a.toNat < 0x4000) ∨
    (classify a = .romBank1 ∧ 0x4000 ≤ a.toNat ∧ a.toNat < 0x8000) ∨
    (classify a = .vram ∧ 0x8000 ≤ a.toNat ∧ a.toNat < 0xA000) ∨
    (classify a = .externalRam ∧ 0xA000 ≤ a.toNat ∧ a.toNat < 0xC000) ∨
    (classify a = .workRam0 ∧ 0xC000 ≤ a.toNat ∧ a.toNat < 0xD000) ∨
    (classify a = .workRam1 ∧ 0xD000 ≤ a.toNat ∧ a.toNat < 0xE000) ∨
    (classify a = .echoRam ∧ 0xE000 ≤ a.toNat ∧ a.toNat < 0xFE00) ∨
    (classify a = .oam ∧ 0xFE00 ≤ a.toNat ∧ a.toNat < 0xFEA0) ∨
    (classify a = .unusable ∧ 0xFEA0 ≤ a.toNat ∧ a.toNat < 0xFF00) ∨
    (classify a = .ioRegisters ∧ 0xFF00 ≤ a.toNat ∧ a.toNat < 0xFF80) ∨
    (classify a = .highRam ∧ 0xFF80 ≤ a.toNat ∧ a.toNat < 0xFFFF) ∨
    (classify a = .interruptEnable ∧ 0xFFFF ≤ a.toNat ∧ a.toNat < 0x10000) := by
  have top := a.isLt
  unfold classify
  dsimp only
  generalize a.toNat = n at top
  by_cases h0 : n < 0x4000
  · rw [if_pos h0]
    exact .inl ⟨rfl, by omega, h0⟩
  by_cases h1 : n < 0x8000
  · rw [if_neg h0, if_pos h1]
    exact .inr (.inl ⟨rfl, by omega, h1⟩)
  by_cases h2 : n < 0xA000
  · rw [if_neg h0, if_neg h1, if_pos h2]
    exact .inr (.inr (.inl ⟨rfl, by omega, h2⟩))
  by_cases h3 : n < 0xC000
  · rw [if_neg h0, if_neg h1, if_neg h2, if_pos h3]
    exact .inr (.inr (.inr (.inl ⟨rfl, by omega, h3⟩)))
  by_cases h4 : n < 0xD000
  · rw [if_neg h0, if_neg h1, if_neg h2, if_neg h3, if_pos h4]
    exact .inr (.inr (.inr (.inr (.inl ⟨rfl, by omega, h4⟩))))
  by_cases h5 : n < 0xE000
  · rw [if_neg h0, if_neg h1, if_neg h2, if_neg h3, if_neg h4, if_pos h5]
    exact .inr (.inr (.inr (.inr (.inr (.inl ⟨rfl, by omega, h5⟩)))))
  by_cases h6 : n < 0xFE00
  · rw [if_neg h0, if_neg h1, if_neg h2, if_neg h3, if_neg h4, if_neg h5, if_pos h6]
    exact .inr (.inr (.inr (.inr (.inr (.inr (.inl ⟨rfl, by omega, h6⟩))))))
  by_cases h7 : n < 0xFEA0
  · rw [if_neg h0, if_neg h1, if_neg h2, if_neg h3, if_neg h4, if_neg h5, if_neg h6, if_pos h7]
    exact .inr (.inr (.inr (.inr (.inr (.inr (.inr (.inl ⟨rfl, by omega, h7⟩)))))))
  by_cases h8 : n < 0xFF00
  · rw [if_neg h0, if_neg h1, if_neg h2, if_neg h3, if_neg h4, if_neg h5, if_neg h6, if_neg h7, if_pos h8]
    exact .inr (.inr (.inr (.inr (.inr (.inr (.inr (.inr (.inl ⟨rfl, by omega, h8⟩))))))))
  by_cases h9 : n < 0xFF80
  · rw [if_neg h0, if_neg h1, if_neg h2, if_neg h3, if_neg h4, if_neg h5, if_neg h6, if_neg h7, if_neg h8, if_pos h9]
    exact .inr (.inr (.inr (.inr (.inr (.inr (.inr (.inr (.inr (.inl ⟨rfl, by omega, h9⟩)))))))))
  by_cases h10 : n < 0xFFFF
  · rw [if_neg h0, if_neg h1, if_neg h2, if_neg h3, if_neg h4, if_neg h5, if_neg h6, if_neg h7, if_neg h8, if_neg h9, if_pos h10]
    exact .inr (.inr (.inr (.inr (.inr (.inr (.inr (.inr (.inr (.inr (.inl ⟨rfl, by omega, h10⟩))))))))))
  rw [if_neg h0, if_neg h1, if_neg h2, if_neg h3, if_neg h4, if_neg h5, if_neg h6, if_neg h7, if_neg h8, if_neg h9, if_neg h10]
  exact .inr (.inr (.inr (.inr (.inr (.inr (.inr (.inr (.inr (.inr (.inr ⟨rfl, by omega, top⟩))))))))))

theorem classify_romBank0 (a : Word) : classify a = .romBank0 ↔ 0x0000 ≤ a.toNat ∧ a.toNat < 0x4000 := by
  rcases classify_cases a with ⟨h, lo, hi⟩ | ⟨h, lo, hi⟩ | ⟨h, lo, hi⟩ | ⟨h, lo, hi⟩ | ⟨h, lo, hi⟩ | ⟨h, lo, hi⟩ | ⟨h, lo, hi⟩ |
    ⟨h, lo, hi⟩ | ⟨h, lo, hi⟩ | ⟨h, lo, hi⟩ | ⟨h, lo, hi⟩ | ⟨h, lo, hi⟩
  all_goals first | exact iff_of_true h (by omega) | (rw [h]; exact iff_of_false nofun (by omega))

theorem classify_romBank1 (a : Word) : classify a = .romBank1 ↔ 0x4000 ≤ a.toNat ∧ a.toNat < 0x8000 := by
  rcases classify_cases a with ⟨h, lo, hi⟩ | ⟨h, lo, hi⟩ | ⟨h, lo, hi⟩ | ⟨h, lo, hi⟩ | ⟨h, lo, hi⟩ | ⟨h, lo, hi⟩ | ⟨h, lo, hi⟩ |
    ⟨h, lo, hi⟩ | ⟨h, lo, hi⟩ | ⟨h, lo, hi⟩ | ⟨h, lo, hi⟩ | ⟨h, lo, hi⟩
  all_goals first | exact iff_of_true h (by omega) | (rw [h]; exact iff_of_false nofun (by omega))

theorem classify_vram (a : Word) : classify a = .vram ↔ 0x8000 ≤ a.toNat ∧ a.toNat < 0xA000 := by
  rcases classify_cases a with ⟨h, lo, hi⟩ | ⟨h, lo, hi⟩ | ⟨h, lo, hi⟩ | ⟨h, lo, hi⟩ | ⟨h, lo, hi⟩ | ⟨h, lo, hi⟩ | ⟨h, lo, hi⟩ |
    ⟨h, lo, hi⟩ | ⟨h, lo, hi⟩ | ⟨h, lo, hi⟩ | ⟨h, lo, hi⟩ | ⟨h, lo, hi⟩
  all_goals first | exact iff_of_true h (by omega) | (rw [h]; exact iff_of_false nofun (by omega))

theorem classify_externalRam (a : Word) : classify a = .externalRam ↔ 0xA000 ≤ a.toNat ∧ a.toNat < 0xC000 := by
  rcases classify_cases a with ⟨h, lo, hi⟩ | ⟨h, lo, hi⟩ | ⟨h, lo, hi⟩ | ⟨h, lo, hi⟩ | ⟨h, lo, hi⟩ | ⟨h, lo, hi⟩ | ⟨h, lo, hi⟩ |
    ⟨h, lo, hi⟩ | ⟨h, lo, hi⟩ | ⟨h, lo, hi⟩ | ⟨h, lo, hi⟩ | ⟨h, lo, hi⟩
  all_goals first | exact iff_of_true h (by omega) | (rw [h]; exact iff_of_false nofun (by omega))

theorem classify_workRam0 (a : Word) : classify a = .workRam0 ↔ 0xC000 ≤ a.toNat ∧ a.toNat < 0xD000 := by
  rcases classify_cases a with ⟨h, lo, hi⟩ | ⟨h, lo, hi⟩ | ⟨h, lo, hi⟩ | ⟨h, lo, hi⟩ | ⟨h, lo, hi⟩ | ⟨h, lo, hi⟩ | ⟨h, lo, hi⟩ |
    ⟨h, lo, hi⟩ | ⟨h, lo, hi⟩ | ⟨h, lo, hi⟩ | ⟨h, lo, hi⟩ | ⟨h, lo, hi⟩
  all_goals first | exact iff_of_true h (by omega) | (rw [h]; exact iff_of_false nofun (by omega))

theorem classify_workRam1 (a : Word) : classify a = .workRam1 ↔ 0xD000 ≤ a.toNat ∧ a.toNat < 0xE000 := by
  rcases classify_cases a with ⟨h, lo, hi⟩ | ⟨h, lo, hi⟩ | ⟨h, lo, hi⟩ | ⟨h, lo, hi⟩ | ⟨h, lo, hi⟩ | ⟨h, lo, hi⟩ | ⟨h, lo, hi⟩ |
    ⟨h, lo, hi⟩ | ⟨h, lo, hi⟩ | ⟨h, lo, hi⟩ | ⟨h, lo, hi⟩ | ⟨h, lo, hi⟩
  all_goals first | exact iff_of_true h (by omega) | (rw [h]; exact iff_of_false nofun (by omega))

theorem classify_echoRam (a : Word) : classify a = .echoRam ↔ 0xE000 ≤ a.toNat ∧ a.toNat < 0xFE00 := by
  rcases classify_cases a with ⟨h, lo, hi⟩ | ⟨h, lo, hi⟩ | ⟨h, lo, hi⟩ | ⟨h, lo, hi⟩ | ⟨h, lo, hi⟩ | ⟨h, lo, hi⟩ | ⟨h, lo, hi⟩ |
    ⟨h, lo, hi⟩ | ⟨h, lo, hi⟩ | ⟨h, lo, hi⟩ | ⟨h, lo, hi⟩ | ⟨h, lo, hi⟩
  all_goals first | exact iff_of_true h (by omega) | (rw [h]; exact iff_of_false nofun (by omega))

theorem classify_oam (a : Word) : classify a = .oam ↔ 0xFE00 ≤ a.toNat ∧ a.toNat < 0xFEA0 := by
  rcases classify_cases a with ⟨h, lo, hi⟩ | ⟨h, lo, hi⟩ | ⟨h, lo, hi⟩ | ⟨h, lo, hi⟩ | ⟨h, lo, hi⟩ | ⟨h, lo, hi⟩ | ⟨h, lo, hi⟩ |
    ⟨h, lo, hi⟩ | ⟨h, lo, hi⟩ | ⟨h, lo, hi⟩ | ⟨h, lo, hi⟩ | ⟨h, lo, hi⟩
  all_goals first | exact iff_of_true h (by omega) | (rw [h]; exact iff_of_false nofun (by omega))

theorem classify_unusable (a : Word) : classify a = .unusable ↔ 0xFEA0 ≤ a.toNat ∧ a.toNat < 0xFF00 := by
  rcases classify_cases a with ⟨h, lo, hi⟩ | ⟨h, lo, hi⟩ | ⟨h, lo, hi⟩ | ⟨h, lo, hi⟩ | ⟨h, lo, hi⟩ | ⟨h, lo, hi⟩ | ⟨h, lo, hi⟩ |
    ⟨h, lo, hi⟩ | ⟨h, lo, hi⟩ | ⟨h, lo, hi⟩ | ⟨h, lo, hi⟩ | ⟨h, lo, hi⟩
  all_goals first | exact iff_of_true h (by omega) | (rw [h]; exact iff_of_false nofun (by omega))

theorem classify_ioRegisters (a : Word) : classify a = .ioRegisters ↔ 0xFF00 ≤ a.toNat ∧ a.toNat < 0xFF80 := by
  rcases classify_cases a with ⟨h, lo, hi⟩ | ⟨h, lo, hi⟩ | ⟨h, lo, hi⟩ | ⟨h, lo, hi⟩ | ⟨h, lo, hi⟩ | ⟨h, lo, hi⟩ | ⟨h, lo, hi⟩ |
    ⟨h, lo, hi⟩ | ⟨h, lo, hi⟩ | ⟨h, lo, hi⟩ | ⟨h, lo, hi⟩ | ⟨h, lo, hi⟩
  all_goals first | exact iff_of_true h (by omega) | (rw [h]; exact iff_of_false nofun (by omega))

theorem classify_highRam (a : Word) : classify a = .highRam ↔ 0xFF80 ≤ a.toNat ∧ a.toNat < 0xFFFF := by
  rcases classify_cases a with ⟨h, lo, hi⟩ | ⟨h, lo, hi⟩ | ⟨h, lo, hi⟩ | ⟨h, lo, hi⟩ | ⟨h, lo, hi⟩ | ⟨h, lo, hi⟩ | ⟨h, lo, hi⟩ |
    ⟨h, lo, hi⟩ | ⟨h, lo, hi⟩ | ⟨h, lo, hi⟩ | ⟨h, lo, hi⟩ | ⟨h, lo, hi⟩
  all_goals first | exact iff_of_true h (by omega) | (rw [h]; exact iff_of_false nofun (by omega))

theorem classify_interruptEnable (a : Word) : classify a = .interruptEnable ↔ a = 0xFFFF := by
  rw [← BitVec.toNat_inj, show (0xFFFF : Word).toNat = 0xFFFF from rfl]
  rcases classify_cases a with ⟨h, lo, hi⟩ | ⟨h, lo, hi⟩ | ⟨h, lo, hi⟩ | ⟨h, lo, hi⟩ | ⟨h, lo, hi⟩ | ⟨h, lo, hi⟩ | ⟨h, lo, hi⟩ |
    ⟨h, lo, hi⟩ | ⟨h, lo, hi⟩ | ⟨h, lo, hi⟩ | ⟨h, lo, hi⟩ | ⟨h, lo, hi⟩
  all_goals first | exact iff_of_true h (by omega) | (rw [h]; exact iff_of_false nofun (by omega))

/-! ## The I/O registers -/

/-- Every address with its I/O register. -/
theorem ioReg_cases (a : Word) :
    (ioReg a = .joyp ∧ a.toNat = 0xFF00) ∨
    (ioReg a = .sb ∧ a.toNat = 0xFF01) ∨
    (ioReg a = .sc ∧ a.toNat = 0xFF02) ∨
    (ioReg a = .div ∧ a.toNat = 0xFF04) ∨
    (ioReg a = .tima ∧ a.toNat = 0xFF05) ∨
    (ioReg a = .tma ∧ a.toNat = 0xFF06) ∨
    (ioReg a = .tac ∧ a.toNat = 0xFF07) ∨
    (ioReg a = .ifReg ∧ a.toNat = 0xFF0F) ∨
    (ioReg a = .ppuReg ∧ 0xFF40 ≤ a.toNat ∧ a.toNat ≤ 0xFF4B) ∨
    (ioReg a = .bootOff ∧ a.toNat = 0xFF50) ∨
    (ioReg a = .plain ∧ a.toNat ≠ 0xFF00 ∧ a.toNat ≠ 0xFF01 ∧ a.toNat ≠ 0xFF02 ∧ a.toNat ≠ 0xFF04 ∧ a.toNat ≠ 0xFF05 ∧ a.toNat ≠ 0xFF06 ∧ a.toNat ≠ 0xFF07 ∧ a.toNat ≠ 0xFF0F ∧
      ¬(0xFF40 ≤ a.toNat ∧ a.toNat ≤ 0xFF4B) ∧ a.toNat ≠ 0xFF50) := by
  unfold ioReg
  dsimp only
  generalize a.toNat = n
  by_cases h0 : n = 0xFF00
  · rw [if_pos h0]
    exact .inl ⟨rfl, h0⟩
  by_cases h1 : n = 0xFF01
  · rw [if_neg h0, if_pos h1]
    exact .inr (.inl ⟨rfl, h1⟩)
  by_cases h2 : n = 0xFF02
  · rw [if_neg h0, if_neg h1, if_pos h2]
    exact .inr (.inr (.inl ⟨rfl, h2⟩))
  by_cases h3 : n = 0xFF04
  · rw [if_neg h0, if_neg h1, if_neg h2, if_pos h3]
    exact .inr (.inr (.inr (.inl ⟨rfl, h3⟩)))
  by_cases h4 : n = 0xFF05
  · rw [if_neg h0, if_neg h1, if_neg h2, if_neg h3, if_pos h4]
    exact .inr (.inr (.inr (.inr (.inl ⟨rfl, h4⟩))))
  by_cases h5 : n = 0xFF06
  · rw [if_neg h0, if_neg h1, if_neg h2, if_neg h3, if_neg h4, if_pos h5]
    exact .inr (.inr (.inr (.inr (.inr (.inl ⟨rfl, h5⟩)))))
  by_cases h6 : n = 0xFF07
  · rw [if_neg h0, if_neg h1, if_neg h2, if_neg h3, if_neg h4, if_neg h5, if_pos h6]
    exact .inr (.inr (.inr (.inr (.inr (.inr (.inl ⟨rfl, h6⟩))))))
  by_cases h7 : n = 0xFF0F
  · rw [if_neg h0, if_neg h1, if_neg h2, if_neg h3, if_neg h4, if_neg h5, if_neg h6, if_pos h7]
    exact .inr (.inr (.inr (.inr (.inr (.inr (.inr (.inl ⟨rfl, h7⟩)))))))
  by_cases h8 : 0xFF40 ≤ n ∧ n ≤ 0xFF4B
  · rw [if_neg h0, if_neg h1, if_neg h2, if_neg h3, if_neg h4, if_neg h5, if_neg h6, if_neg h7, if_pos h8]
    exact .inr (.inr (.inr (.inr (.inr (.inr (.inr (.inr (.inl ⟨rfl, h8⟩))))))))
  by_cases h9 : n = 0xFF50
  · rw [if_neg h0, if_neg h1, if_neg h2, if_neg h3, if_neg h4, if_neg h5, if_neg h6, if_neg h7, if_neg h8, if_pos h9]
    exact .inr (.inr (.inr (.inr (.inr (.inr (.inr (.inr (.inr (.inl ⟨rfl, h9⟩)))))))))
  rw [if_neg h0, if_neg h1, if_neg h2, if_neg h3, if_neg h4, if_neg h5, if_neg h6, if_neg h7, if_neg h8, if_neg h9]
  exact .inr (.inr (.inr (.inr (.inr (.inr (.inr (.inr (.inr (.inr ⟨rfl, h0, h1, h2, h3, h4, h5, h6, h7, h8, h9⟩)))))))))

theorem ioReg_joyp (a : Word) : ioReg a = .joyp ↔ a = 0xFF00 := by
  rw [← BitVec.toNat_inj, show (0xFF00 : Word).toNat = 0xFF00 from rfl]
  rcases ioReg_cases a with ⟨h, k⟩ | ⟨h, k⟩ | ⟨h, k⟩ | ⟨h, k⟩ | ⟨h, k⟩ | ⟨h, k⟩ | ⟨h, k⟩ | ⟨h, k⟩ | ⟨h, k⟩ | ⟨h, k⟩ | ⟨h, k⟩
  all_goals first | exact iff_of_true h (by omega) | (rw [h]; exact iff_of_false nofun (by omega))

theorem ioReg_sb (a : Word) : ioReg a = .sb ↔ a = 0xFF01 := by
  rw [← BitVec.toNat_inj, show (0xFF01 : Word).toNat = 0xFF01 from rfl]
  rcases ioReg_cases a with ⟨h, k⟩ | ⟨h, k⟩ | ⟨h, k⟩ | ⟨h, k⟩ | ⟨h, k⟩ | ⟨h, k⟩ | ⟨h, k⟩ | ⟨h, k⟩ | ⟨h, k⟩ | ⟨h, k⟩ | ⟨h, k⟩
  all_goals first | exact iff_of_true h (by omega) | (rw [h]; exact iff_of_false nofun (by omega))

theorem ioReg_sc (a : Word) : ioReg a = .sc ↔ a = 0xFF02 := by
  rw [← BitVec.toNat_inj, show (0xFF02 : Word).toNat = 0xFF02 from rfl]
  rcases ioReg_cases a with ⟨h, k⟩ | ⟨h, k⟩ | ⟨h, k⟩ | ⟨h, k⟩ | ⟨h, k⟩ | ⟨h, k⟩ | ⟨h, k⟩ | ⟨h, k⟩ | ⟨h, k⟩ | ⟨h, k⟩ | ⟨h, k⟩
  all_goals first | exact iff_of_true h (by omega) | (rw [h]; exact iff_of_false nofun (by omega))

theorem ioReg_div (a : Word) : ioReg a = .div ↔ a = 0xFF04 := by
  rw [← BitVec.toNat_inj, show (0xFF04 : Word).toNat = 0xFF04 from rfl]
  rcases ioReg_cases a with ⟨h, k⟩ | ⟨h, k⟩ | ⟨h, k⟩ | ⟨h, k⟩ | ⟨h, k⟩ | ⟨h, k⟩ | ⟨h, k⟩ | ⟨h, k⟩ | ⟨h, k⟩ | ⟨h, k⟩ | ⟨h, k⟩
  all_goals first | exact iff_of_true h (by omega) | (rw [h]; exact iff_of_false nofun (by omega))

theorem ioReg_tima (a : Word) : ioReg a = .tima ↔ a = 0xFF05 := by
  rw [← BitVec.toNat_inj, show (0xFF05 : Word).toNat = 0xFF05 from rfl]
  rcases ioReg_cases a with ⟨h, k⟩ | ⟨h, k⟩ | ⟨h, k⟩ | ⟨h, k⟩ | ⟨h, k⟩ | ⟨h, k⟩ | ⟨h, k⟩ | ⟨h, k⟩ | ⟨h, k⟩ | ⟨h, k⟩ | ⟨h, k⟩
  all_goals first | exact iff_of_true h (by omega) | (rw [h]; exact iff_of_false nofun (by omega))

theorem ioReg_tma (a : Word) : ioReg a = .tma ↔ a = 0xFF06 := by
  rw [← BitVec.toNat_inj, show (0xFF06 : Word).toNat = 0xFF06 from rfl]
  rcases ioReg_cases a with ⟨h, k⟩ | ⟨h, k⟩ | ⟨h, k⟩ | ⟨h, k⟩ | ⟨h, k⟩ | ⟨h, k⟩ | ⟨h, k⟩ | ⟨h, k⟩ | ⟨h, k⟩ | ⟨h, k⟩ | ⟨h, k⟩
  all_goals first | exact iff_of_true h (by omega) | (rw [h]; exact iff_of_false nofun (by omega))

theorem ioReg_tac (a : Word) : ioReg a = .tac ↔ a = 0xFF07 := by
  rw [← BitVec.toNat_inj, show (0xFF07 : Word).toNat = 0xFF07 from rfl]
  rcases ioReg_cases a with ⟨h, k⟩ | ⟨h, k⟩ | ⟨h, k⟩ | ⟨h, k⟩ | ⟨h, k⟩ | ⟨h, k⟩ | ⟨h, k⟩ | ⟨h, k⟩ | ⟨h, k⟩ | ⟨h, k⟩ | ⟨h, k⟩
  all_goals first | exact iff_of_true h (by omega) | (rw [h]; exact iff_of_false nofun (by omega))

theorem ioReg_ifReg (a : Word) : ioReg a = .ifReg ↔ a = 0xFF0F := by
  rw [← BitVec.toNat_inj, show (0xFF0F : Word).toNat = 0xFF0F from rfl]
  rcases ioReg_cases a with ⟨h, k⟩ | ⟨h, k⟩ | ⟨h, k⟩ | ⟨h, k⟩ | ⟨h, k⟩ | ⟨h, k⟩ | ⟨h, k⟩ | ⟨h, k⟩ | ⟨h, k⟩ | ⟨h, k⟩ | ⟨h, k⟩
  all_goals first | exact iff_of_true h (by omega) | (rw [h]; exact iff_of_false nofun (by omega))

theorem ioReg_ppuReg (a : Word) : ioReg a = .ppuReg ↔ 0xFF40 ≤ a.toNat ∧ a.toNat ≤ 0xFF4B := by
  rcases ioReg_cases a with ⟨h, k⟩ | ⟨h, k⟩ | ⟨h, k⟩ | ⟨h, k⟩ | ⟨h, k⟩ | ⟨h, k⟩ | ⟨h, k⟩ | ⟨h, k⟩ | ⟨h, k⟩ | ⟨h, k⟩ | ⟨h, k⟩
  all_goals first | exact iff_of_true h (by omega) | (rw [h]; exact iff_of_false nofun (by omega))

theorem ioReg_bootOff (a : Word) : ioReg a = .bootOff ↔ a = 0xFF50 := by
  rw [← BitVec.toNat_inj, show (0xFF50 : Word).toNat = 0xFF50 from rfl]
  rcases ioReg_cases a with ⟨h, k⟩ | ⟨h, k⟩ | ⟨h, k⟩ | ⟨h, k⟩ | ⟨h, k⟩ | ⟨h, k⟩ | ⟨h, k⟩ | ⟨h, k⟩ | ⟨h, k⟩ | ⟨h, k⟩ | ⟨h, k⟩
  all_goals first | exact iff_of_true h (by omega) | (rw [h]; exact iff_of_false nofun (by omega))

/-! ## Stores and reads by region -/

theorem memWrite_rom (s : State) (a : Word) (v : Byte) (h : a.toNat < 0x8000) :
    s.memWrite a v = s.setRom (s.rom.write a.toNat v) := by
  by_cases h0 : a.toNat < 0x4000
  · simp only [State.memWrite, (classify_romBank0 a).mpr ⟨Nat.zero_le _, h0⟩]
  · simp only [State.memWrite, (classify_romBank1 a).mpr ⟨by omega, h⟩]

/-- Work RAM and its echo (20_memory.md R70, R71). -/
theorem memWrite_work (s : State) (a : Word) (v : Byte) (h : 0xC000 ≤ a.toNat ∧ a.toNat < 0xE000) :
    s.memWrite a v = s.setWram (s.wram.write (a.toNat - 0xC000) v) := by
  by_cases h0 : a.toNat < 0xD000
  · simp only [State.memWrite, (classify_workRam0 a).mpr ⟨h.1, h0⟩]
  · simp only [State.memWrite, (classify_workRam1 a).mpr ⟨by omega, h.2⟩]

theorem memRead_work (s : State) (a : Word) (h : 0xC000 ≤ a.toNat ∧ a.toNat < 0xE000) :
    s.memRead a = s.wram.read (a.toNat - 0xC000) := by
  by_cases h0 : a.toNat < 0xD000
  · simp only [State.memRead, (classify_workRam0 a).mpr ⟨h.1, h0⟩]
  · simp only [State.memRead, (classify_workRam1 a).mpr ⟨by omega, h.2⟩]

theorem memWrite_echo (s : State) (a : Word) (v : Byte) (h : 0xE000 ≤ a.toNat ∧ a.toNat < 0xFE00) :
    s.memWrite a v = s.setWram (s.wram.write (a.toNat - 0xE000) v) := by
  simp only [State.memWrite, (classify_echoRam a).mpr h]

theorem memRead_echo (s : State) (a : Word) (h : 0xE000 ≤ a.toNat ∧ a.toNat < 0xFE00) :
    s.memRead a = s.wram.read (a.toNat - 0xE000) := by
  simp only [State.memRead, (classify_echoRam a).mpr h]

theorem memWrite_ioRegisters (s : State) (a : Word) (v : Byte) (h : 0xFF00 ≤ a.toNat ∧ a.toNat < 0xFF80) :
    s.memWrite a v = s.writeIo a v := by
  simp only [State.memWrite, (classify_ioRegisters a).mpr h]

theorem memRead_ioRegisters (s : State) (a : Word) (h : 0xFF00 ≤ a.toNat ∧ a.toNat < 0xFF80) :
    s.memRead a = s.fetchIo a := by
  simp only [State.memRead, (classify_ioRegisters a).mpr h]

/-! ## What a store leaves in the ROM buffer and the I/O storage, whether or not a read can show it -/

/-- A store changes no ROM byte but the one it names, and none from 0x8000 on (20_memory.md R67). -/
theorem memWrite_rom_read (s : State) (a : Word) (v : Byte) (i : Nat) (h : a.toNat ≠ i ∨ 0x8000 ≤ i) :
    (s.memWrite a v).rom.read i = s.rom.read i := by
  by_cases low : a.toNat < 0x8000
  · rw [memWrite_rom s a v low]
    exact Memory.read_write_other s.rom v (by omega)
  · have h0 : classify a ≠ .romBank0 := fun e => by have := (classify_romBank0 a).mp e; omega
    have h1 : classify a ≠ .romBank1 := fun e => by have := (classify_romBank1 a).mp e; omega
    simp only [State.memWrite, State.writeIo]
    split
    all_goals first | contradiction | rfl | (split <;> rfl)

/-- A store changes no byte of the I/O storage but the one it names (20_memory.md R80, R83, R84, R93). -/
theorem memWrite_io_read (s : State) (a : Word) (v : Byte) (i : Nat) (h : a.toNat ≠ 0xFF00 + i) :
    (s.memWrite a v).io.read i = s.io.read i := by
  by_cases inIo : classify a = .ioRegisters
  · have range := (classify_ioRegisters a).mp inIo
    rw [memWrite_ioRegisters s a v range]
    rcases ioReg_cases a with ⟨e, k⟩ | ⟨e, k⟩ | ⟨e, k⟩ | ⟨e, k⟩ | ⟨e, k⟩ | ⟨e, k⟩ | ⟨e, k⟩ | ⟨e, k⟩ | ⟨e, k⟩ | ⟨e, k⟩ | ⟨e, k⟩
    all_goals simp only [State.writeIo, e]
    all_goals first | rfl | exact Memory.read_write_other s.io v (by omega)
  · simp only [State.memWrite]
    split
    all_goals first | contradiction | rfl

end Sys2Proof.Machine
end

