-- ==== Sys2Proof/Laws/Arrays.lean ====
section
/-! SUPPORT. Every memory operation keeps the arrays in canonical form and within their sizes (10_state.md R20). -/

namespace Sys2Proof.Machine

/-- Writing one cell of one array keeps it well formed and within its size. -/
theorem Memory.write_keeps {m : Memory} {size a : Nat} (v : Byte) (hm : m.wf ∧ m.within size) (ha : a < size) :
    (m.write a v).wf ∧ (m.write a v).within size :=
  ⟨Memory.write_wf a v hm.1, Memory.write_within v hm.2 ha⟩

/-- Updates outside the arrays. -/
theorem ArraysWf.congr {s t : State} (h : ArraysWf s) (rom : t.rom = s.rom) (boot : t.boot = s.boot) (xram : t.xram = s.xram)
    (wram : t.wram = s.wram) (oam : t.oam = s.oam) (io : t.io = s.io) (hram : t.hram = s.hram) : ArraysWf t :=
  ⟨rom ▸ h.rom, boot ▸ h.boot, xram ▸ h.xram, wram ▸ h.wram, oam ▸ h.oam, io ▸ h.io, hram ▸ h.hram⟩

theorem writeIo_arrays {s : State} (a : Word) (v : Byte) (h : ArraysWf s) (lo : 0xFF00 ≤ a.toNat) (hi : a.toNat < 0xFF80) :
    ArraysWf (s.writeIo a v) := by
  simp only [State.writeIo]
  split
  · exact h.congr rfl rfl rfl rfl rfl rfl rfl
  · exact ⟨h.rom, h.boot, h.xram, h.wram, h.oam, Memory.write_keeps v h.io (by omega), h.hram⟩
  · exact ⟨h.rom, h.boot, h.xram, h.wram, h.oam, Memory.write_keeps v h.io (by omega), h.hram⟩
  · exact h.congr rfl rfl rfl rfl rfl rfl rfl
  · exact h.congr rfl rfl rfl rfl rfl rfl rfl
  · exact h.congr rfl rfl rfl rfl rfl rfl rfl
  · exact h.congr rfl rfl rfl rfl rfl rfl rfl
  · exact h.congr rfl rfl rfl rfl rfl rfl rfl
  · exact h.congr rfl rfl rfl rfl rfl rfl rfl
  · exact h.congr rfl rfl rfl rfl rfl rfl rfl
  · exact ⟨h.rom, h.boot, h.xram, h.wram, h.oam, Memory.write_keeps v h.io (by omega), h.hram⟩

/-- A byte store keeps every array well formed and within its size. -/
theorem memWrite_arrays {s : State} (a : Word) (v : Byte) (h : ArraysWf s) : ArraysWf (s.memWrite a v) := by
  rcases classify_cases a with ⟨hc, lo, hi⟩ | ⟨hc, lo, hi⟩ | ⟨hc, lo, hi⟩ | ⟨hc, lo, hi⟩ | ⟨hc, lo, hi⟩ | ⟨hc, lo, hi⟩ |
    ⟨hc, lo, hi⟩ | ⟨hc, lo, hi⟩ | ⟨hc, lo, hi⟩ | ⟨hc, lo, hi⟩ | ⟨hc, lo, hi⟩ | ⟨hc, lo, hi⟩ <;>
    simp only [State.memWrite, hc]
  · exact ⟨Memory.write_keeps v h.rom (by omega), h.boot, h.xram, h.wram, h.oam, h.io, h.hram⟩
  · exact ⟨Memory.write_keeps v h.rom (by omega), h.boot, h.xram, h.wram, h.oam, h.io, h.hram⟩
  · exact h.congr rfl rfl rfl rfl rfl rfl rfl
  · exact ⟨h.rom, h.boot, Memory.write_keeps v h.xram (by omega), h.wram, h.oam, h.io, h.hram⟩
  · exact ⟨h.rom, h.boot, h.xram, Memory.write_keeps v h.wram (by omega), h.oam, h.io, h.hram⟩
  · exact ⟨h.rom, h.boot, h.xram, Memory.write_keeps v h.wram (by omega), h.oam, h.io, h.hram⟩
  · exact ⟨h.rom, h.boot, h.xram, Memory.write_keeps v h.wram (by omega), h.oam, h.io, h.hram⟩
  · exact ⟨h.rom, h.boot, h.xram, h.wram, Memory.write_keeps v h.oam (by omega), h.io, h.hram⟩
  · exact h
  · exact writeIo_arrays a v h lo hi
  · exact ⟨h.rom, h.boot, h.xram, h.wram, h.oam, h.io, Memory.write_keeps v h.hram (by omega)⟩
  · exact h.congr rfl rfl rfl rfl rfl rfl rfl

/-- A push keeps the arrays. -/
theorem push16_arrays {s : State} (v : Word) (h : ArraysWf s) : ArraysWf (s.push16 v) := by
  rw [push16_eq]
  exact (memWrite_arrays _ _ (memWrite_arrays _ _ h)).congr rfl rfl rfl rfl rfl rfl rfl

theorem loadBootRom_arrays {s t : State} {bytes : List Byte} (h : ArraysWf s) (ht : s.loadBootRom bytes = .ok t) :
    ArraysWf t := by
  unfold State.loadBootRom at ht
  split at ht
  · rename_i hl
    cases ht
    refine ⟨h.rom, ⟨Memory.ofBytes_wf 0 bytes, ?_⟩, h.xram, h.wram, h.oam, h.io, h.hram⟩
    simpa [hl] using Memory.ofBytes_within bytes
  · cases ht

theorem loadRom_arrays {s t : State} {bytes : List Byte} (h : ArraysWf s) (ht : s.loadRom bytes = .ok t) : ArraysWf t := by
  unfold State.loadRom at ht
  split at ht
  · cases ht
  · split at ht
    · cases ht
    · rename_i hl _
      cases ht
      exact ⟨⟨Memory.copyIn_wf bytes h.rom.1, Memory.copyIn_within bytes h.rom.2 (by omega)⟩, h.boot, h.xram, h.wram, h.oam,
        h.io, h.hram⟩

/-- The arrays are well formed after construction. -/
theorem reset_arrays : ArraysWf State.reset := by
  constructor <;> exact ⟨by decide, by decide⟩

end Sys2Proof.Machine
end

