-- ==== Sys2Proof/Laws/Cycle.lean ====
section
/-! SUPPORT. What each phase of a Step can do (60_exceptions.md R400): which fields the phases around the instruction change, and
the ways a Step can end in a next state. -/

namespace Sys2Proof.Machine

/-! ## Phases 1 and 2 -/

/-- The joypad sample changes IF, `joy` and the stream (60_exceptions.md R421). -/
theorem joypadSample_eq (s : State) :
    s.joypadSample =
      ((s.setIf s.joypadSample.ifl).setJoy s.joypadSample.joy).setJoyInput s.joyInput.tail := by
  have key : s.joypadSample.joyInput = s.joyInput.tail := by
    cases h : s.joyInput with
    | nil => simp [State.joypadSample, h]
    | cons x later => cases x <;> simp [State.joypadSample, h]
  rw [← key]
  simp only [State.joypadSample]
  split
  · rfl
  · rfl
  · split <;> rfl

/-- Phases 1 and 2 change IF, `joy`, the stream and the PPU's V-Blank flag (60_exceptions.md R420, R421). -/
theorem beginStep_eq (s : State) :
    s.beginStep =
      (((s.setIf s.beginStep.ifl).setJoy s.joypadSample.joy).setJoyInput s.joyInput.tail).setPpu
        { s.ppu with vblank := false } := by
  simp only [State.beginStep, State.vblankLatch, ppuVblank]
  rw [joypadSample_eq]
  rfl

@[simp] theorem beginStep_regs (s : State) : s.beginStep.regs = s.regs := by rw [beginStep_eq]; rfl
@[simp] theorem beginStep_flags (s : State) : s.beginStep.flags = s.flags := by rw [beginStep_eq]; rfl
@[simp] theorem beginStep_sp (s : State) : s.beginStep.sp = s.sp := by rw [beginStep_eq]; rfl
@[simp] theorem beginStep_pc (s : State) : s.beginStep.pc = s.pc := by rw [beginStep_eq]; rfl
@[simp] theorem beginStep_ime (s : State) : s.beginStep.ime = s.ime := by rw [beginStep_eq]; rfl
@[simp] theorem beginStep_halted (s : State) : s.beginStep.halted = s.halted := by rw [beginStep_eq]; rfl
@[simp] theorem beginStep_ie (s : State) : s.beginStep.ie = s.ie := by rw [beginStep_eq]; rfl
@[simp] theorem beginStep_div (s : State) : s.beginStep.div = s.div := by rw [beginStep_eq]; rfl
@[simp] theorem beginStep_tima (s : State) : s.beginStep.tima = s.tima := by rw [beginStep_eq]; rfl
@[simp] theorem beginStep_tma (s : State) : s.beginStep.tma = s.tma := by rw [beginStep_eq]; rfl
@[simp] theorem beginStep_tac (s : State) : s.beginStep.tac = s.tac := by rw [beginStep_eq]; rfl
@[simp] theorem beginStep_joypSel (s : State) : s.beginStep.joypSel = s.joypSel := by rw [beginStep_eq]; rfl
@[simp] theorem beginStep_bootOff (s : State) : s.beginStep.bootOff = s.bootOff := by rw [beginStep_eq]; rfl
@[simp] theorem beginStep_cycles (s : State) : s.beginStep.cycles = s.cycles := by rw [beginStep_eq]; rfl
@[simp] theorem beginStep_lastTimerUpdate (s : State) : s.beginStep.lastTimerUpdate = s.lastTimerUpdate := by rw [beginStep_eq]; rfl
@[simp] theorem beginStep_serialOut (s : State) : s.beginStep.serialOut = s.serialOut := by rw [beginStep_eq]; rfl
@[simp] theorem beginStep_rom (s : State) : s.beginStep.rom = s.rom := by rw [beginStep_eq]; rfl
@[simp] theorem beginStep_boot (s : State) : s.beginStep.boot = s.boot := by rw [beginStep_eq]; rfl
@[simp] theorem beginStep_xram (s : State) : s.beginStep.xram = s.xram := by rw [beginStep_eq]; rfl
@[simp] theorem beginStep_wram (s : State) : s.beginStep.wram = s.wram := by rw [beginStep_eq]; rfl
@[simp] theorem beginStep_oam (s : State) : s.beginStep.oam = s.oam := by rw [beginStep_eq]; rfl
@[simp] theorem beginStep_io (s : State) : s.beginStep.io = s.io := by rw [beginStep_eq]; rfl
@[simp] theorem beginStep_hram (s : State) : s.beginStep.hram = s.hram := by rw [beginStep_eq]; rfl
@[simp] theorem beginStep_faulted (s : State) : s.beginStep.faulted = s.faulted := by rw [beginStep_eq]; rfl
@[simp] theorem beginStep_params (s : State) : s.beginStep.params = s.params := by rw [beginStep_eq]; rfl
@[simp] theorem beginStep_joyInput (s : State) : s.beginStep.joyInput = s.joyInput.tail := by rw [beginStep_eq]; rfl
@[simp] theorem beginStep_ppu (s : State) : s.beginStep.ppu = { s.ppu with vblank := false } := by rw [beginStep_eq]; rfl

/-- Phases 1 and 2 only set bits of IF. -/
theorem beginStep_ifl (s : State) : ∃ v : Byte, s.beginStep.ifl = s.ifl ||| v := by
  have h1 : ∃ v : Byte, s.joypadSample.ifl = s.ifl ||| v := by
    simp only [State.joypadSample]
    split
    · exact ⟨0, by simp⟩
    · exact ⟨0, by simp⟩
    · split
      · exact ⟨_, rfl⟩
      · exact ⟨0, by simp⟩
  obtain ⟨v, hv⟩ := h1
  simp only [State.beginStep, State.vblankLatch, ppuVblank, setPpu_ifl, setIf_ifl]
  by_cases hp : s.joypadSample.ppu.vblank = true
  · exact ⟨v ||| (1 : Byte) <<< IntSource.vblank.bit, by
      simp only [if_pos hp, State.requestInterrupt, setIf_ifl, hv, BitVec.or_assoc]⟩
  · exact ⟨v, by simp only [if_neg hp, hv]⟩

/-! ## Phase 8 -/

/-- The timer update changes the divider, TIMA, IF and the last update (60_exceptions.md R430). -/
theorem timerUpdate_eq (s : State) :
    s.timerUpdate =
      (((s.setDiv s.timerUpdate.div).setTima s.timerUpdate.tima).setIf s.timerUpdate.ifl).setLastTimerUpdate
        (max s.lastTimerUpdate s.cycles) := by
  simp only [State.timerUpdate]
  split
  · rename_i h
    rw [Nat.max_eq_left h]
    rfl
  · rename_i h
    rw [Nat.max_eq_right (by omega)]
    split
    · simp only [State.timaIncrement]
      split <;> rfl
    · rfl

@[simp] theorem timerUpdate_regs (s : State) : s.timerUpdate.regs = s.regs := by rw [timerUpdate_eq]; rfl
@[simp] theorem timerUpdate_flags (s : State) : s.timerUpdate.flags = s.flags := by rw [timerUpdate_eq]; rfl
@[simp] theorem timerUpdate_sp (s : State) : s.timerUpdate.sp = s.sp := by rw [timerUpdate_eq]; rfl
@[simp] theorem timerUpdate_pc (s : State) : s.timerUpdate.pc = s.pc := by rw [timerUpdate_eq]; rfl
@[simp] theorem timerUpdate_ime (s : State) : s.timerUpdate.ime = s.ime := by rw [timerUpdate_eq]; rfl
@[simp] theorem timerUpdate_halted (s : State) : s.timerUpdate.halted = s.halted := by rw [timerUpdate_eq]; rfl
@[simp] theorem timerUpdate_ie (s : State) : s.timerUpdate.ie = s.ie := by rw [timerUpdate_eq]; rfl
@[simp] theorem timerUpdate_tma (s : State) : s.timerUpdate.tma = s.tma := by rw [timerUpdate_eq]; rfl
@[simp] theorem timerUpdate_tac (s : State) : s.timerUpdate.tac = s.tac := by rw [timerUpdate_eq]; rfl
@[simp] theorem timerUpdate_joypSel (s : State) : s.timerUpdate.joypSel = s.joypSel := by rw [timerUpdate_eq]; rfl
@[simp] theorem timerUpdate_joy (s : State) : s.timerUpdate.joy = s.joy := by rw [timerUpdate_eq]; rfl
@[simp] theorem timerUpdate_bootOff (s : State) : s.timerUpdate.bootOff = s.bootOff := by rw [timerUpdate_eq]; rfl
@[simp] theorem timerUpdate_cycles (s : State) : s.timerUpdate.cycles = s.cycles := by rw [timerUpdate_eq]; rfl
@[simp] theorem timerUpdate_serialOut (s : State) : s.timerUpdate.serialOut = s.serialOut := by rw [timerUpdate_eq]; rfl
@[simp] theorem timerUpdate_rom (s : State) : s.timerUpdate.rom = s.rom := by rw [timerUpdate_eq]; rfl
@[simp] theorem timerUpdate_boot (s : State) : s.timerUpdate.boot = s.boot := by rw [timerUpdate_eq]; rfl
@[simp] theorem timerUpdate_ppu (s : State) : s.timerUpdate.ppu = s.ppu := by rw [timerUpdate_eq]; rfl
@[simp] theorem timerUpdate_xram (s : State) : s.timerUpdate.xram = s.xram := by rw [timerUpdate_eq]; rfl
@[simp] theorem timerUpdate_wram (s : State) : s.timerUpdate.wram = s.wram := by rw [timerUpdate_eq]; rfl
@[simp] theorem timerUpdate_oam (s : State) : s.timerUpdate.oam = s.oam := by rw [timerUpdate_eq]; rfl
@[simp] theorem timerUpdate_io (s : State) : s.timerUpdate.io = s.io := by rw [timerUpdate_eq]; rfl
@[simp] theorem timerUpdate_hram (s : State) : s.timerUpdate.hram = s.hram := by rw [timerUpdate_eq]; rfl
@[simp] theorem timerUpdate_faulted (s : State) : s.timerUpdate.faulted = s.faulted := by rw [timerUpdate_eq]; rfl
@[simp] theorem timerUpdate_params (s : State) : s.timerUpdate.params = s.params := by rw [timerUpdate_eq]; rfl
@[simp] theorem timerUpdate_joyInput (s : State) : s.timerUpdate.joyInput = s.joyInput := by rw [timerUpdate_eq]; rfl
@[simp] theorem timerUpdate_lastTimerUpdate (s : State) : s.timerUpdate.lastTimerUpdate = max s.lastTimerUpdate s.cycles := by
  rw [timerUpdate_eq]; rfl

/-- The timer update only sets bits of IF. -/
theorem timerUpdate_ifl (s : State) : ∃ v : Byte, s.timerUpdate.ifl = s.ifl ||| v := by
  simp only [State.timerUpdate]
  split
  · exact ⟨0, by simp⟩
  · split
    · simp only [State.timaIncrement]
      split
      · exact ⟨_, rfl⟩
      · exact ⟨0, by simp⟩
    · exact ⟨0, by simp⟩

/-! ## The Step -/

theorem endStep_eq_next {r : Result} {t : State} (h : endStep r = .next t) : ∃ u, r = .next u ∧ t = u.timerUpdate := by
  cases r with
  | next u => exact ⟨u, rfl, by simpa [endStep] using h.symm⟩
  | fault e => simp [endStep] at h
  | refused e => simp [endStep] at h

/-- The ways a Step ends in a next state: a service, a wake-up of either kind, a halted idle period, an instruction. -/
theorem coreStepWith_cases {exec : Instr → State → Result} {s t : State} (h : coreStepWith exec s = .next t) :
    s.faulted = false ∧ ∃ u, t = u.timerUpdate ∧
      ((∃ src, s.beginStep.interruptCheck = some src ∧ s.ime = true ∧ u = s.beginStep.service src) ∨
       (∃ src, s.beginStep.interruptCheck = some src ∧ s.ime = false ∧ s.params.haltWake = .dispatchNoAck ∧
          u = s.beginStep.enterHandler src) ∨
       (s.beginStep.interruptCheck = none ∧ s.halted = true ∧ u = s.beginStep.charge 4) ∨
       (∃ b, ((s.beginStep.interruptCheck = none ∧ s.halted = false ∧ b = s.beginStep) ∨
            ((∃ src, s.beginStep.interruptCheck = some src) ∧ s.ime = false ∧ s.params.haltWake = .resume ∧
              b = s.beginStep.setHalted false)) ∧
          exec b.fetchInstr (b.advancePast b.fetchInstr) = .next u)) := by
  unfold coreStepWith at h
  split at h
  · simp at h
  · rename_i hf
    refine ⟨by simpa using hf, ?_⟩
    simp only [beginStep_ime, beginStep_halted, beginStep_params] at h
    split at h
    · rename_i src hc
      split at h
      · rename_i hi
        obtain ⟨u, hu, rfl⟩ := endStep_eq_next h
        exact ⟨u, rfl, .inl ⟨src, hc, hi, by simpa using hu.symm⟩⟩
      · rename_i hi
        split at h
        · rename_i hp
          obtain ⟨u, hu, rfl⟩ := endStep_eq_next h
          exact ⟨u, rfl, .inr (.inr (.inr ⟨_, .inr ⟨⟨src, hc⟩, by simpa using hi, hp, rfl⟩, hu⟩))⟩
        · rename_i hp
          obtain ⟨u, hu, rfl⟩ := endStep_eq_next h
          exact ⟨u, rfl, .inr (.inl ⟨src, hc, by simpa using hi, hp, by simpa using hu.symm⟩)⟩
    · rename_i hc
      split at h
      · rename_i hh
        obtain ⟨u, hu, rfl⟩ := endStep_eq_next h
        exact ⟨u, rfl, .inr (.inr (.inl ⟨hc, hh, by simpa using hu.symm⟩))⟩
      · rename_i hh
        obtain ⟨u, hu, rfl⟩ := endStep_eq_next h
        exact ⟨u, rfl, .inr (.inr (.inr ⟨_, .inl ⟨hc, by simpa using hh, rfl⟩, hu⟩))⟩

/-- A step in a next state is a Step in one, the PPU advanced by the cycles charged (60_exceptions.md R407). -/
theorem stepWith_cases {exec : Instr → State → Result} {s t : State} (h : stepWith exec s = .next t) :
    ∃ u, coreStepWith exec s = .next u ∧ t = u.setPpu (ppuTicks (u.cycles - s.cycles) u.ppu) := by
  unfold stepWith at h
  split at h
  · rename_i u hu
    exact ⟨u, hu, by simpa [State.advancePpu] using h.symm⟩
  · simp at h
  · simp at h

end Sys2Proof.Machine
end

