-- ==== Sys2Proof/Laws/Exec.lean ====
section
/-! SUPPORT. The meaning of each family of instructions, over its shared operation: one equation a family, so that a proof about a
family needs no case split over its constructors. -/

namespace Sys2Proof.Machine

theorem exec_ldReg (dst r : Reg8) (s : State) : exec (Instr.ldReg dst r) s = loadOperand (.reg dst) (.reg r) s := by
  cases dst <;> cases r <;> rfl

theorem exec_ldImm (dst : Reg8) (n : Byte) (s : State) : exec (Instr.ldImm dst n) s = loadOperand (.reg dst) (.imm n) s := by
  cases dst <;> rfl

theorem exec_ldFromHl (dst : Reg8) (s : State) : exec (Instr.ldFromHl dst) s = loadOperand (.reg dst) .indHl s := by
  cases dst <;> rfl

theorem exec_ldToHl (r : Reg8) (s : State) : exec (Instr.ldToHl r) s = loadOperand .indHl (.reg r) s := by
  cases r <;> rfl

theorem exec_ldPairImm (p : Pair) (nn : Word) (s : State) : exec (Instr.ldPairImm p nn) s = loadPair p nn s := by
  cases p <;> rfl

theorem exec_push (p : StackPair) (s : State) : exec (Instr.push p) s = pushPair p s := by cases p <;> rfl

theorem exec_pop (p : StackPair) (s : State) : exec (Instr.pop p) s = popPair p s := by cases p <;> rfl

theorem exec_alu (op : AluOp) (src : Source) (s : State) : exec (Instr.alu op src) s = aluOperation op src s := by
  cases src with
  | reg r => cases op <;> cases r <;> rfl
  | indHl => cases op <;> rfl
  | imm n => cases op <;> rfl

theorem exec_inc8 (m : Operand) (s : State) : exec (Instr.inc8 m) s = incOperand m s := by
  cases m with
  | reg r => cases r <;> rfl
  | indHl => rfl

theorem exec_dec8 (m : Operand) (s : State) : exec (Instr.dec8 m) s = decOperand m s := by
  cases m with
  | reg r => cases r <;> rfl
  | indHl => rfl

theorem exec_addHlPair (p : Pair) (s : State) : exec (Instr.addHlPair p) s = addHlTo p s := by cases p <;> rfl

theorem exec_incPair (p : Pair) (s : State) : exec (Instr.incPair p) s = incPair16 p s := by cases p <;> rfl

theorem exec_decPair (p : Pair) (s : State) : exec (Instr.decPair p) s = decPair16 p s := by cases p <;> rfl

theorem exec_rot (op : RotOp) (m : Operand) (s : State) : exec (Instr.rot op m) s = rotateOperand op m s := by
  cases m with
  | reg r => cases op <;> cases r <;> rfl
  | indHl => cases op <;> rfl

theorem exec_bit (b : Fin 8) (m : Operand) (s : State) : exec (Instr.bit b m) s = testBitOf b m s := by
  cases m with
  | reg r => revert b; cases r <;> exact fun | 0 | 1 | 2 | 3 | 4 | 5 | 6 | 7 => rfl
  | indHl => revert b; exact fun | 0 | 1 | 2 | 3 | 4 | 5 | 6 | 7 => rfl

theorem exec_res (b : Fin 8) (m : Operand) (s : State) : exec (Instr.res b m) s = resetBitOf b m s := by
  cases m with
  | reg r => revert b; cases r <;> exact fun | 0 | 1 | 2 | 3 | 4 | 5 | 6 | 7 => rfl
  | indHl => revert b; exact fun | 0 | 1 | 2 | 3 | 4 | 5 | 6 | 7 => rfl

theorem exec_set (b : Fin 8) (m : Operand) (s : State) : exec (Instr.set b m) s = setBitOf b m s := by
  cases m with
  | reg r => revert b; cases r <;> exact fun | 0 | 1 | 2 | 3 | 4 | 5 | 6 | 7 => rfl
  | indHl => revert b; exact fun | 0 | 1 | 2 | 3 | 4 | 5 | 6 | 7 => rfl

theorem exec_jpCond (cc : Cond) (nn : Word) (s : State) : exec (Instr.jpCond cc nn) s = jumpIf cc nn s := by
  cases cc <;> rfl

theorem exec_jrCond (cc : Cond) (e : Byte) (s : State) : exec (Instr.jrCond cc e) s = jumpIf cc (s.pc + sext16 e) s := by
  cases cc <;> rfl

theorem exec_callCond (cc : Cond) (nn : Word) (s : State) : exec (Instr.callCond cc nn) s = callIf cc nn s := by
  cases cc <;> rfl

theorem exec_retCond (cc : Cond) (s : State) : exec (Instr.retCond cc) s = returnIf cc s := by cases cc <;> rfl

theorem exec_rst (y : Fin 8) (s : State) : exec (Instr.rst y) s = callTo (BitVec.ofNat 16 (8 * y.val)) s :=
  match y with
  | 0 | 1 | 2 | 3 | 4 | 5 | 6 | 7 => rfl

/-- The condition of a conditional instruction, as the meanings compute it (46_control.md R320). -/
theorem condHolds_iff (cc : Cond) (s : State) : condHolds cc s.flags = true ↔ Taken cc s := by
  cases cc <;> simp [condHolds, Taken]

/-! ## The families cover the instruction set -/

/-- The instruction of each extended slot, by the opcode's fields (30_encoding.md R128, R131). -/
theorem extended_make (op : Byte) :
    (extendedSlot op).make 0 0 =
      (if op.toNat < 0x40 then Instr.rot (rotOfCode (fieldY op)) (operandOfCode (fieldZ op))
      else if op.toNat < 0x80 then Instr.bit (fieldY op) (operandOfCode (fieldZ op))
      else if op.toNat < 0xC0 then Instr.res (fieldY op) (operandOfCode (fieldZ op))
      else Instr.set (fieldY op) (operandOfCode (fieldZ op))) := by
  revert op
  decide +kernel

/-- Running the instruction of an extended slot is running the slot's implementation. -/
theorem exec_extended (op : Byte) (s : State) : exec ((extendedSlot op).make 0 0) s = runExtended op s := by
  simp only [extended_make, runExtended]
  split
  · exact exec_rot _ _ s
  · split
    · exact exec_bit _ _ s
    · split
      · exact exec_res _ _ s
      · exact exec_set _ _ s

end Sys2Proof.Machine
end

