-- ==== Sys2Proof/Laws/PerInstr.lean ====
section
/-! SUPPORT. Facts about every instruction as syntax, one lemma per constructor. -/

namespace Sys2Proof.Laws.EncodedLength

/-- The encoding of an instruction is one to three bytes, as many as its first byte says (30_encoding.md R120, R136). -/
def Statement (i : Instr) : Prop :=
  i.wf = true → (encode i).length = instrLength ((encode i).headD 0) ∧ 1 ≤ (encode i).length ∧
    (encode i).length ≤ 3

theorem nop : Statement (.nop) := 
  fun _ => ⟨rfl, Nat.le_of_ble_eq_true rfl, Nat.le_of_ble_eq_true rfl⟩
theorem ldBcD16 (nn : Word) : Statement (.ldBcD16 nn) := 
  fun _ => ⟨rfl, Nat.le_of_ble_eq_true rfl, Nat.le_of_ble_eq_true rfl⟩
theorem ldIndBcA : Statement (.ldIndBcA) := 
  fun _ => ⟨rfl, Nat.le_of_ble_eq_true rfl, Nat.le_of_ble_eq_true rfl⟩
theorem incBc : Statement (.incBc) := 
  fun _ => ⟨rfl, Nat.le_of_ble_eq_true rfl, Nat.le_of_ble_eq_true rfl⟩
theorem incB : Statement (.incB) := 
  fun _ => ⟨rfl, Nat.le_of_ble_eq_true rfl, Nat.le_of_ble_eq_true rfl⟩
theorem decB : Statement (.decB) := 
  fun _ => ⟨rfl, Nat.le_of_ble_eq_true rfl, Nat.le_of_ble_eq_true rfl⟩
theorem ldBD8 (n : Byte) : Statement (.ldBD8 n) := 
  fun _ => ⟨rfl, Nat.le_of_ble_eq_true rfl, Nat.le_of_ble_eq_true rfl⟩
theorem rlca : Statement (.rlca) := 
  fun _ => ⟨rfl, Nat.le_of_ble_eq_true rfl, Nat.le_of_ble_eq_true rfl⟩
theorem ldIndA16Sp (nn : Word) : Statement (.ldIndA16Sp nn) := 
  fun _ => ⟨rfl, Nat.le_of_ble_eq_true rfl, Nat.le_of_ble_eq_true rfl⟩
theorem addHlBc : Statement (.addHlBc) := 
  fun _ => ⟨rfl, Nat.le_of_ble_eq_true rfl, Nat.le_of_ble_eq_true rfl⟩
theorem ldAIndBc : Statement (.ldAIndBc) := 
  fun _ => ⟨rfl, Nat.le_of_ble_eq_true rfl, Nat.le_of_ble_eq_true rfl⟩
theorem decBc : Statement (.decBc) := 
  fun _ => ⟨rfl, Nat.le_of_ble_eq_true rfl, Nat.le_of_ble_eq_true rfl⟩
theorem incC : Statement (.incC) := 
  fun _ => ⟨rfl, Nat.le_of_ble_eq_true rfl, Nat.le_of_ble_eq_true rfl⟩
theorem decC : Statement (.decC) := 
  fun _ => ⟨rfl, Nat.le_of_ble_eq_true rfl, Nat.le_of_ble_eq_true rfl⟩
theorem ldCD8 (n : Byte) : Statement (.ldCD8 n) := 
  fun _ => ⟨rfl, Nat.le_of_ble_eq_true rfl, Nat.le_of_ble_eq_true rfl⟩
theorem rrca : Statement (.rrca) := 
  fun _ => ⟨rfl, Nat.le_of_ble_eq_true rfl, Nat.le_of_ble_eq_true rfl⟩
theorem stop : Statement (.stop) := 
  fun _ => ⟨rfl, Nat.le_of_ble_eq_true rfl, Nat.le_of_ble_eq_true rfl⟩
theorem ldDeD16 (nn : Word) : Statement (.ldDeD16 nn) := 
  fun _ => ⟨rfl, Nat.le_of_ble_eq_true rfl, Nat.le_of_ble_eq_true rfl⟩
theorem ldIndDeA : Statement (.ldIndDeA) := 
  fun _ => ⟨rfl, Nat.le_of_ble_eq_true rfl, Nat.le_of_ble_eq_true rfl⟩
theorem incDe : Statement (.incDe) := 
  fun _ => ⟨rfl, Nat.le_of_ble_eq_true rfl, Nat.le_of_ble_eq_true rfl⟩
theorem incD : Statement (.incD) := 
  fun _ => ⟨rfl, Nat.le_of_ble_eq_true rfl, Nat.le_of_ble_eq_true rfl⟩
theorem decD : Statement (.decD) := 
  fun _ => ⟨rfl, Nat.le_of_ble_eq_true rfl, Nat.le_of_ble_eq_true rfl⟩
theorem ldDD8 (n : Byte) : Statement (.ldDD8 n) := 
  fun _ => ⟨rfl, Nat.le_of_ble_eq_true rfl, Nat.le_of_ble_eq_true rfl⟩
theorem rla : Statement (.rla) := 
  fun _ => ⟨rfl, Nat.le_of_ble_eq_true rfl, Nat.le_of_ble_eq_true rfl⟩
theorem jrR8 (e : Byte) : Statement (.jrR8 e) := 
  fun _ => ⟨rfl, Nat.le_of_ble_eq_true rfl, Nat.le_of_ble_eq_true rfl⟩
theorem addHlDe : Statement (.addHlDe) := 
  fun _ => ⟨rfl, Nat.le_of_ble_eq_true rfl, Nat.le_of_ble_eq_true rfl⟩
theorem ldAIndDe : Statement (.ldAIndDe) := 
  fun _ => ⟨rfl, Nat.le_of_ble_eq_true rfl, Nat.le_of_ble_eq_true rfl⟩
theorem decDe : Statement (.decDe) := 
  fun _ => ⟨rfl, Nat.le_of_ble_eq_true rfl, Nat.le_of_ble_eq_true rfl⟩
theorem incE : Statement (.incE) := 
  fun _ => ⟨rfl, Nat.le_of_ble_eq_true rfl, Nat.le_of_ble_eq_true rfl⟩
theorem decE : Statement (.decE) := 
  fun _ => ⟨rfl, Nat.le_of_ble_eq_true rfl, Nat.le_of_ble_eq_true rfl⟩
theorem ldED8 (n : Byte) : Statement (.ldED8 n) := 
  fun _ => ⟨rfl, Nat.le_of_ble_eq_true rfl, Nat.le_of_ble_eq_true rfl⟩
theorem rra : Statement (.rra) := 
  fun _ => ⟨rfl, Nat.le_of_ble_eq_true rfl, Nat.le_of_ble_eq_true rfl⟩
theorem jrNzR8 (e : Byte) : Statement (.jrNzR8 e) := 
  fun _ => ⟨rfl, Nat.le_of_ble_eq_true rfl, Nat.le_of_ble_eq_true rfl⟩
theorem ldHlD16 (nn : Word) : Statement (.ldHlD16 nn) := 
  fun _ => ⟨rfl, Nat.le_of_ble_eq_true rfl, Nat.le_of_ble_eq_true rfl⟩
theorem ldIndHlIncA : Statement (.ldIndHlIncA) := 
  fun _ => ⟨rfl, Nat.le_of_ble_eq_true rfl, Nat.le_of_ble_eq_true rfl⟩
theorem incHl : Statement (.incHl) := 
  fun _ => ⟨rfl, Nat.le_of_ble_eq_true rfl, Nat.le_of_ble_eq_true rfl⟩
theorem incH : Statement (.incH) := 
  fun _ => ⟨rfl, Nat.le_of_ble_eq_true rfl, Nat.le_of_ble_eq_true rfl⟩
theorem decH : Statement (.decH) := 
  fun _ => ⟨rfl, Nat.le_of_ble_eq_true rfl, Nat.le_of_ble_eq_true rfl⟩
theorem ldHD8 (n : Byte) : Statement (.ldHD8 n) := 
  fun _ => ⟨rfl, Nat.le_of_ble_eq_true rfl, Nat.le_of_ble_eq_true rfl⟩
theorem daa : Statement (.daa) := 
  fun _ => ⟨rfl, Nat.le_of_ble_eq_true rfl, Nat.le_of_ble_eq_true rfl⟩
theorem jrZR8 (e : Byte) : Statement (.jrZR8 e) := 
  fun _ => ⟨rfl, Nat.le_of_ble_eq_true rfl, Nat.le_of_ble_eq_true rfl⟩
theorem addHlHl : Statement (.addHlHl) := 
  fun _ => ⟨rfl, Nat.le_of_ble_eq_true rfl, Nat.le_of_ble_eq_true rfl⟩
theorem ldAIndHlInc : Statement (.ldAIndHlInc) := 
  fun _ => ⟨rfl, Nat.le_of_ble_eq_true rfl, Nat.le_of_ble_eq_true rfl⟩
theorem decHl : Statement (.decHl) := 
  fun _ => ⟨rfl, Nat.le_of_ble_eq_true rfl, Nat.le_of_ble_eq_true rfl⟩
theorem incL : Statement (.incL) := 
  fun _ => ⟨rfl, Nat.le_of_ble_eq_true rfl, Nat.le_of_ble_eq_true rfl⟩
theorem decL : Statement (.decL) := 
  fun _ => ⟨rfl, Nat.le_of_ble_eq_true rfl, Nat.le_of_ble_eq_true rfl⟩
theorem ldLD8 (n : Byte) : Statement (.ldLD8 n) := 
  fun _ => ⟨rfl, Nat.le_of_ble_eq_true rfl, Nat.le_of_ble_eq_true rfl⟩
theorem cpl : Statement (.cpl) := 
  fun _ => ⟨rfl, Nat.le_of_ble_eq_true rfl, Nat.le_of_ble_eq_true rfl⟩
theorem jrNcR8 (e : Byte) : Statement (.jrNcR8 e) := 
  fun _ => ⟨rfl, Nat.le_of_ble_eq_true rfl, Nat.le_of_ble_eq_true rfl⟩
theorem ldSpD16 (nn : Word) : Statement (.ldSpD16 nn) := 
  fun _ => ⟨rfl, Nat.le_of_ble_eq_true rfl, Nat.le_of_ble_eq_true rfl⟩
theorem ldIndHlDecA : Statement (.ldIndHlDecA) := 
  fun _ => ⟨rfl, Nat.le_of_ble_eq_true rfl, Nat.le_of_ble_eq_true rfl⟩
theorem incSp : Statement (.incSp) := 
  fun _ => ⟨rfl, Nat.le_of_ble_eq_true rfl, Nat.le_of_ble_eq_true rfl⟩
theorem incIndHl : Statement (.incIndHl) := 
  fun _ => ⟨rfl, Nat.le_of_ble_eq_true rfl, Nat.le_of_ble_eq_true rfl⟩
theorem decIndHl : Statement (.decIndHl) := 
  fun _ => ⟨rfl, Nat.le_of_ble_eq_true rfl, Nat.le_of_ble_eq_true rfl⟩
theorem ldIndHlD8 (n : Byte) : Statement (.ldIndHlD8 n) := 
  fun _ => ⟨rfl, Nat.le_of_ble_eq_true rfl, Nat.le_of_ble_eq_true rfl⟩
theorem scf : Statement (.scf) := 
  fun _ => ⟨rfl, Nat.le_of_ble_eq_true rfl, Nat.le_of_ble_eq_true rfl⟩
theorem jrCR8 (e : Byte) : Statement (.jrCR8 e) := 
  fun _ => ⟨rfl, Nat.le_of_ble_eq_true rfl, Nat.le_of_ble_eq_true rfl⟩
theorem addHlSp : Statement (.addHlSp) := 
  fun _ => ⟨rfl, Nat.le_of_ble_eq_true rfl, Nat.le_of_ble_eq_true rfl⟩
theorem ldAIndHlDec : Statement (.ldAIndHlDec) := 
  fun _ => ⟨rfl, Nat.le_of_ble_eq_true rfl, Nat.le_of_ble_eq_true rfl⟩
theorem decSp : Statement (.decSp) := 
  fun _ => ⟨rfl, Nat.le_of_ble_eq_true rfl, Nat.le_of_ble_eq_true rfl⟩
theorem incA : Statement (.incA) := 
  fun _ => ⟨rfl, Nat.le_of_ble_eq_true rfl, Nat.le_of_ble_eq_true rfl⟩
theorem decA : Statement (.decA) := 
  fun _ => ⟨rfl, Nat.le_of_ble_eq_true rfl, Nat.le_of_ble_eq_true rfl⟩
theorem ldAD8 (n : Byte) : Statement (.ldAD8 n) := 
  fun _ => ⟨rfl, Nat.le_of_ble_eq_true rfl, Nat.le_of_ble_eq_true rfl⟩
theorem ccf : Statement (.ccf) := 
  fun _ => ⟨rfl, Nat.le_of_ble_eq_true rfl, Nat.le_of_ble_eq_true rfl⟩
theorem ldBB : Statement (.ldBB) := 
  fun _ => ⟨rfl, Nat.le_of_ble_eq_true rfl, Nat.le_of_ble_eq_true rfl⟩
theorem ldBC : Statement (.ldBC) := 
  fun _ => ⟨rfl, Nat.le_of_ble_eq_true rfl, Nat.le_of_ble_eq_true rfl⟩
theorem ldBD : Statement (.ldBD) := 
  fun _ => ⟨rfl, Nat.le_of_ble_eq_true rfl, Nat.le_of_ble_eq_true rfl⟩
theorem ldBE : Statement (.ldBE) := 
  fun _ => ⟨rfl, Nat.le_of_ble_eq_true rfl, Nat.le_of_ble_eq_true rfl⟩
theorem ldBH : Statement (.ldBH) := 
  fun _ => ⟨rfl, Nat.le_of_ble_eq_true rfl, Nat.le_of_ble_eq_true rfl⟩
theorem ldBL : Statement (.ldBL) := 
  fun _ => ⟨rfl, Nat.le_of_ble_eq_true rfl, Nat.le_of_ble_eq_true rfl⟩
theorem ldBIndHl : Statement (.ldBIndHl) := 
  fun _ => ⟨rfl, Nat.le_of_ble_eq_true rfl, Nat.le_of_ble_eq_true rfl⟩
theorem ldBA : Statement (.ldBA) := 
  fun _ => ⟨rfl, Nat.le_of_ble_eq_true rfl, Nat.le_of_ble_eq_true rfl⟩
theorem ldCB : Statement (.ldCB) := 
  fun _ => ⟨rfl, Nat.le_of_ble_eq_true rfl, Nat.le_of_ble_eq_true rfl⟩
theorem ldCC : Statement (.ldCC) := 
  fun _ => ⟨rfl, Nat.le_of_ble_eq_true rfl, Nat.le_of_ble_eq_true rfl⟩
theorem ldCD : Statement (.ldCD) := 
  fun _ => ⟨rfl, Nat.le_of_ble_eq_true rfl, Nat.le_of_ble_eq_true rfl⟩
theorem ldCE : Statement (.ldCE) := 
  fun _ => ⟨rfl, Nat.le_of_ble_eq_true rfl, Nat.le_of_ble_eq_true rfl⟩
theorem ldCH : Statement (.ldCH) := 
  fun _ => ⟨rfl, Nat.le_of_ble_eq_true rfl, Nat.le_of_ble_eq_true rfl⟩
theorem ldCL : Statement (.ldCL) := 
  fun _ => ⟨rfl, Nat.le_of_ble_eq_true rfl, Nat.le_of_ble_eq_true rfl⟩
theorem ldCIndHl : Statement (.ldCIndHl) := 
  fun _ => ⟨rfl, Nat.le_of_ble_eq_true rfl, Nat.le_of_ble_eq_true rfl⟩
theorem ldCA : Statement (.ldCA) := 
  fun _ => ⟨rfl, Nat.le_of_ble_eq_true rfl, Nat.le_of_ble_eq_true rfl⟩
theorem ldDB : Statement (.ldDB) := 
  fun _ => ⟨rfl, Nat.le_of_ble_eq_true rfl, Nat.le_of_ble_eq_true rfl⟩
theorem ldDC : Statement (.ldDC) := 
  fun _ => ⟨rfl, Nat.le_of_ble_eq_true rfl, Nat.le_of_ble_eq_true rfl⟩
theorem ldDD : Statement (.ldDD) := 
  fun _ => ⟨rfl, Nat.le_of_ble_eq_true rfl, Nat.le_of_ble_eq_true rfl⟩
theorem ldDE : Statement (.ldDE) := 
  fun _ => ⟨rfl, Nat.le_of_ble_eq_true rfl, Nat.le_of_ble_eq_true rfl⟩
theorem ldDH : Statement (.ldDH) := 
  fun _ => ⟨rfl, Nat.le_of_ble_eq_true rfl, Nat.le_of_ble_eq_true rfl⟩
theorem ldDL : Statement (.ldDL) := 
  fun _ => ⟨rfl, Nat.le_of_ble_eq_true rfl, Nat.le_of_ble_eq_true rfl⟩
theorem ldDIndHl : Statement (.ldDIndHl) := 
  fun _ => ⟨rfl, Nat.le_of_ble_eq_true rfl, Nat.le_of_ble_eq_true rfl⟩
theorem ldDA : Statement (.ldDA) := 
  fun _ => ⟨rfl, Nat.le_of_ble_eq_true rfl, Nat.le_of_ble_eq_true rfl⟩
theorem ldEB : Statement (.ldEB) := 
  fun _ => ⟨rfl, Nat.le_of_ble_eq_true rfl, Nat.le_of_ble_eq_true rfl⟩
theorem ldEC : Statement (.ldEC) := 
  fun _ => ⟨rfl, Nat.le_of_ble_eq_true rfl, Nat.le_of_ble_eq_true rfl⟩
theorem ldED : Statement (.ldED) := 
  fun _ => ⟨rfl, Nat.le_of_ble_eq_true rfl, Nat.le_of_ble_eq_true rfl⟩
theorem ldEE : Statement (.ldEE) := 
  fun _ => ⟨rfl, Nat.le_of_ble_eq_true rfl, Nat.le_of_ble_eq_true rfl⟩
theorem ldEH : Statement (.ldEH) := 
  fun _ => ⟨rfl, Nat.le_of_ble_eq_true rfl, Nat.le_of_ble_eq_true rfl⟩
theorem ldEL : Statement (.ldEL) := 
  fun _ => ⟨rfl, Nat.le_of_ble_eq_true rfl, Nat.le_of_ble_eq_true rfl⟩
theorem ldEIndHl : Statement (.ldEIndHl) := 
  fun _ => ⟨rfl, Nat.le_of_ble_eq_true rfl, Nat.le_of_ble_eq_true rfl⟩
theorem ldEA : Statement (.ldEA) := 
  fun _ => ⟨rfl, Nat.le_of_ble_eq_true rfl, Nat.le_of_ble_eq_true rfl⟩
theorem ldHB : Statement (.ldHB) := 
  fun _ => ⟨rfl, Nat.le_of_ble_eq_true rfl, Nat.le_of_ble_eq_true rfl⟩
theorem ldHC : Statement (.ldHC) := 
  fun _ => ⟨rfl, Nat.le_of_ble_eq_true rfl, Nat.le_of_ble_eq_true rfl⟩
theorem ldHD : Statement (.ldHD) := 
  fun _ => ⟨rfl, Nat.le_of_ble_eq_true rfl, Nat.le_of_ble_eq_true rfl⟩
theorem ldHE : Statement (.ldHE) := 
  fun _ => ⟨rfl, Nat.le_of_ble_eq_true rfl, Nat.le_of_ble_eq_true rfl⟩
theorem ldHH : Statement (.ldHH) := 
  fun _ => ⟨rfl, Nat.le_of_ble_eq_true rfl, Nat.le_of_ble_eq_true rfl⟩
theorem ldHL : Statement (.ldHL) := 
  fun _ => ⟨rfl, Nat.le_of_ble_eq_true rfl, Nat.le_of_ble_eq_true rfl⟩
theorem ldHIndHl : Statement (.ldHIndHl) := 
  fun _ => ⟨rfl, Nat.le_of_ble_eq_true rfl, Nat.le_of_ble_eq_true rfl⟩
theorem ldHA : Statement (.ldHA) := 
  fun _ => ⟨rfl, Nat.le_of_ble_eq_true rfl, Nat.le_of_ble_eq_true rfl⟩
theorem ldLB : Statement (.ldLB) := 
  fun _ => ⟨rfl, Nat.le_of_ble_eq_true rfl, Nat.le_of_ble_eq_true rfl⟩
theorem ldLC : Statement (.ldLC) := 
  fun _ => ⟨rfl, Nat.le_of_ble_eq_true rfl, Nat.le_of_ble_eq_true rfl⟩
theorem ldLD : Statement (.ldLD) := 
  fun _ => ⟨rfl, Nat.le_of_ble_eq_true rfl, Nat.le_of_ble_eq_true rfl⟩
theorem ldLE : Statement (.ldLE) := 
  fun _ => ⟨rfl, Nat.le_of_ble_eq_true rfl, Nat.le_of_ble_eq_true rfl⟩
theorem ldLH : Statement (.ldLH) := 
  fun _ => ⟨rfl, Nat.le_of_ble_eq_true rfl, Nat.le_of_ble_eq_true rfl⟩
theorem ldLL : Statement (.ldLL) := 
  fun _ => ⟨rfl, Nat.le_of_ble_eq_true rfl, Nat.le_of_ble_eq_true rfl⟩
theorem ldLIndHl : Statement (.ldLIndHl) := 
  fun _ => ⟨rfl, Nat.le_of_ble_eq_true rfl, Nat.le_of_ble_eq_true rfl⟩
theorem ldLA : Statement (.ldLA) := 
  fun _ => ⟨rfl, Nat.le_of_ble_eq_true rfl, Nat.le_of_ble_eq_true rfl⟩
theorem ldIndHlB : Statement (.ldIndHlB) := 
  fun _ => ⟨rfl, Nat.le_of_ble_eq_true rfl, Nat.le_of_ble_eq_true rfl⟩
theorem ldIndHlC : Statement (.ldIndHlC) := 
  fun _ => ⟨rfl, Nat.le_of_ble_eq_true rfl, Nat.le_of_ble_eq_true rfl⟩
theorem ldIndHlD : Statement (.ldIndHlD) := 
  fun _ => ⟨rfl, Nat.le_of_ble_eq_true rfl, Nat.le_of_ble_eq_true rfl⟩
theorem ldIndHlE : Statement (.ldIndHlE) := 
  fun _ => ⟨rfl, Nat.le_of_ble_eq_true rfl, Nat.le_of_ble_eq_true rfl⟩
theorem ldIndHlH : Statement (.ldIndHlH) := 
  fun _ => ⟨rfl, Nat.le_of_ble_eq_true rfl, Nat.le_of_ble_eq_true rfl⟩
theorem ldIndHlL : Statement (.ldIndHlL) := 
  fun _ => ⟨rfl, Nat.le_of_ble_eq_true rfl, Nat.le_of_ble_eq_true rfl⟩
theorem halt : Statement (.halt) := 
  fun _ => ⟨rfl, Nat.le_of_ble_eq_true rfl, Nat.le_of_ble_eq_true rfl⟩
theorem ldIndHlA : Statement (.ldIndHlA) := 
  fun _ => ⟨rfl, Nat.le_of_ble_eq_true rfl, Nat.le_of_ble_eq_true rfl⟩
theorem ldAB : Statement (.ldAB) := 
  fun _ => ⟨rfl, Nat.le_of_ble_eq_true rfl, Nat.le_of_ble_eq_true rfl⟩
theorem ldAC : Statement (.ldAC) := 
  fun _ => ⟨rfl, Nat.le_of_ble_eq_true rfl, Nat.le_of_ble_eq_true rfl⟩
theorem ldAD : Statement (.ldAD) := 
  fun _ => ⟨rfl, Nat.le_of_ble_eq_true rfl, Nat.le_of_ble_eq_true rfl⟩
theorem ldAE : Statement (.ldAE) := 
  fun _ => ⟨rfl, Nat.le_of_ble_eq_true rfl, Nat.le_of_ble_eq_true rfl⟩
theorem ldAH : Statement (.ldAH) := 
  fun _ => ⟨rfl, Nat.le_of_ble_eq_true rfl, Nat.le_of_ble_eq_true rfl⟩
theorem ldAL : Statement (.ldAL) := 
  fun _ => ⟨rfl, Nat.le_of_ble_eq_true rfl, Nat.le_of_ble_eq_true rfl⟩
theorem ldAIndHl : Statement (.ldAIndHl) := 
  fun _ => ⟨rfl, Nat.le_of_ble_eq_true rfl, Nat.le_of_ble_eq_true rfl⟩
theorem ldAA : Statement (.ldAA) := 
  fun _ => ⟨rfl, Nat.le_of_ble_eq_true rfl, Nat.le_of_ble_eq_true rfl⟩
theorem addAB : Statement (.addAB) := 
  fun _ => ⟨rfl, Nat.le_of_ble_eq_true rfl, Nat.le_of_ble_eq_true rfl⟩
theorem addAC : Statement (.addAC) := 
  fun _ => ⟨rfl, Nat.le_of_ble_eq_true rfl, Nat.le_of_ble_eq_true rfl⟩
theorem addAD : Statement (.addAD) := 
  fun _ => ⟨rfl, Nat.le_of_ble_eq_true rfl, Nat.le_of_ble_eq_true rfl⟩
theorem addAE : Statement (.addAE) := 
  fun _ => ⟨rfl, Nat.le_of_ble_eq_true rfl, Nat.le_of_ble_eq_true rfl⟩
theorem addAH : Statement (.addAH) := 
  fun _ => ⟨rfl, Nat.le_of_ble_eq_true rfl, Nat.le_of_ble_eq_true rfl⟩
theorem addAL : Statement (.addAL) := 
  fun _ => ⟨rfl, Nat.le_of_ble_eq_true rfl, Nat.le_of_ble_eq_true rfl⟩
theorem addAIndHl : Statement (.addAIndHl) := 
  fun _ => ⟨rfl, Nat.le_of_ble_eq_true rfl, Nat.le_of_ble_eq_true rfl⟩
theorem addAA : Statement (.addAA) := 
  fun _ => ⟨rfl, Nat.le_of_ble_eq_true rfl, Nat.le_of_ble_eq_true rfl⟩
theorem adcAB : Statement (.adcAB) := 
  fun _ => ⟨rfl, Nat.le_of_ble_eq_true rfl, Nat.le_of_ble_eq_true rfl⟩
theorem adcAC : Statement (.adcAC) := 
  fun _ => ⟨rfl, Nat.le_of_ble_eq_true rfl, Nat.le_of_ble_eq_true rfl⟩
theorem adcAD : Statement (.adcAD) := 
  fun _ => ⟨rfl, Nat.le_of_ble_eq_true rfl, Nat.le_of_ble_eq_true rfl⟩
theorem adcAE : Statement (.adcAE) := 
  fun _ => ⟨rfl, Nat.le_of_ble_eq_true rfl, Nat.le_of_ble_eq_true rfl⟩
theorem adcAH : Statement (.adcAH) := 
  fun _ => ⟨rfl, Nat.le_of_ble_eq_true rfl, Nat.le_of_ble_eq_true rfl⟩
theorem adcAL : Statement (.adcAL) := 
  fun _ => ⟨rfl, Nat.le_of_ble_eq_true rfl, Nat.le_of_ble_eq_true rfl⟩
theorem adcAIndHl : Statement (.adcAIndHl) := 
  fun _ => ⟨rfl, Nat.le_of_ble_eq_true rfl, Nat.le_of_ble_eq_true rfl⟩
theorem adcAA : Statement (.adcAA) := 
  fun _ => ⟨rfl, Nat.le_of_ble_eq_true rfl, Nat.le_of_ble_eq_true rfl⟩
theorem subB : Statement (.subB) := 
  fun _ => ⟨rfl, Nat.le_of_ble_eq_true rfl, Nat.le_of_ble_eq_true rfl⟩
theorem subC : Statement (.subC) := 
  fun _ => ⟨rfl, Nat.le_of_ble_eq_true rfl, Nat.le_of_ble_eq_true rfl⟩
theorem subD : Statement (.subD) := 
  fun _ => ⟨rfl, Nat.le_of_ble_eq_true rfl, Nat.le_of_ble_eq_true rfl⟩
theorem subE : Statement (.subE) := 
  fun _ => ⟨rfl, Nat.le_of_ble_eq_true rfl, Nat.le_of_ble_eq_true rfl⟩
theorem subH : Statement (.subH) := 
  fun _ => ⟨rfl, Nat.le_of_ble_eq_true rfl, Nat.le_of_ble_eq_true rfl⟩
theorem subL : Statement (.subL) := 
  fun _ => ⟨rfl, Nat.le_of_ble_eq_true rfl, Nat.le_of_ble_eq_true rfl⟩
theorem subIndHl : Statement (.subIndHl) := 
  fun _ => ⟨rfl, Nat.le_of_ble_eq_true rfl, Nat.le_of_ble_eq_true rfl⟩
theorem subA : Statement (.subA) := 
  fun _ => ⟨rfl, Nat.le_of_ble_eq_true rfl, Nat.le_of_ble_eq_true rfl⟩
theorem sbcAB : Statement (.sbcAB) := 
  fun _ => ⟨rfl, Nat.le_of_ble_eq_true rfl, Nat.le_of_ble_eq_true rfl⟩
theorem sbcAC : Statement (.sbcAC) := 
  fun _ => ⟨rfl, Nat.le_of_ble_eq_true rfl, Nat.le_of_ble_eq_true rfl⟩
theorem sbcAD : Statement (.sbcAD) := 
  fun _ => ⟨rfl, Nat.le_of_ble_eq_true rfl, Nat.le_of_ble_eq_true rfl⟩
theorem sbcAE : Statement (.sbcAE) := 
  fun _ => ⟨rfl, Nat.le_of_ble_eq_true rfl, Nat.le_of_ble_eq_true rfl⟩
theorem sbcAH : Statement (.sbcAH) := 
  fun _ => ⟨rfl, Nat.le_of_ble_eq_true rfl, Nat.le_of_ble_eq_true rfl⟩
theorem sbcAL : Statement (.sbcAL) := 
  fun _ => ⟨rfl, Nat.le_of_ble_eq_true rfl, Nat.le_of_ble_eq_true rfl⟩
theorem sbcAIndHl : Statement (.sbcAIndHl) := 
  fun _ => ⟨rfl, Nat.le_of_ble_eq_true rfl, Nat.le_of_ble_eq_true rfl⟩
theorem sbcAA : Statement (.sbcAA) := 
  fun _ => ⟨rfl, Nat.le_of_ble_eq_true rfl, Nat.le_of_ble_eq_true rfl⟩
theorem andB : Statement (.andB) := 
  fun _ => ⟨rfl, Nat.le_of_ble_eq_true rfl, Nat.le_of_ble_eq_true rfl⟩
theorem andC : Statement (.andC) := 
  fun _ => ⟨rfl, Nat.le_of_ble_eq_true rfl, Nat.le_of_ble_eq_true rfl⟩
theorem andD : Statement (.andD) := 
  fun _ => ⟨rfl, Nat.le_of_ble_eq_true rfl, Nat.le_of_ble_eq_true rfl⟩
theorem andE : Statement (.andE) := 
  fun _ => ⟨rfl, Nat.le_of_ble_eq_true rfl, Nat.le_of_ble_eq_true rfl⟩
theorem andH : Statement (.andH) := 
  fun _ => ⟨rfl, Nat.le_of_ble_eq_true rfl, Nat.le_of_ble_eq_true rfl⟩
theorem andL : Statement (.andL) := 
  fun _ => ⟨rfl, Nat.le_of_ble_eq_true rfl, Nat.le_of_ble_eq_true rfl⟩
theorem andIndHl : Statement (.andIndHl) := 
  fun _ => ⟨rfl, Nat.le_of_ble_eq_true rfl, Nat.le_of_ble_eq_true rfl⟩
theorem andA : Statement (.andA) := 
  fun _ => ⟨rfl, Nat.le_of_ble_eq_true rfl, Nat.le_of_ble_eq_true rfl⟩
theorem xorB : Statement (.xorB) := 
  fun _ => ⟨rfl, Nat.le_of_ble_eq_true rfl, Nat.le_of_ble_eq_true rfl⟩
theorem xorC : Statement (.xorC) := 
  fun _ => ⟨rfl, Nat.le_of_ble_eq_true rfl, Nat.le_of_ble_eq_true rfl⟩
theorem xorD : Statement (.xorD) := 
  fun _ => ⟨rfl, Nat.le_of_ble_eq_true rfl, Nat.le_of_ble_eq_true rfl⟩
theorem xorE : Statement (.xorE) := 
  fun _ => ⟨rfl, Nat.le_of_ble_eq_true rfl, Nat.le_of_ble_eq_true rfl⟩
theorem xorH : Statement (.xorH) := 
  fun _ => ⟨rfl, Nat.le_of_ble_eq_true rfl, Nat.le_of_ble_eq_true rfl⟩
theorem xorL : Statement (.xorL) := 
  fun _ => ⟨rfl, Nat.le_of_ble_eq_true rfl, Nat.le_of_ble_eq_true rfl⟩
theorem xorIndHl : Statement (.xorIndHl) := 
  fun _ => ⟨rfl, Nat.le_of_ble_eq_true rfl, Nat.le_of_ble_eq_true rfl⟩
theorem xorA : Statement (.xorA) := 
  fun _ => ⟨rfl, Nat.le_of_ble_eq_true rfl, Nat.le_of_ble_eq_true rfl⟩
theorem orB : Statement (.orB) := 
  fun _ => ⟨rfl, Nat.le_of_ble_eq_true rfl, Nat.le_of_ble_eq_true rfl⟩
theorem orC : Statement (.orC) := 
  fun _ => ⟨rfl, Nat.le_of_ble_eq_true rfl, Nat.le_of_ble_eq_true rfl⟩
theorem orD : Statement (.orD) := 
  fun _ => ⟨rfl, Nat.le_of_ble_eq_true rfl, Nat.le_of_ble_eq_true rfl⟩
theorem orE : Statement (.orE) := 
  fun _ => ⟨rfl, Nat.le_of_ble_eq_true rfl, Nat.le_of_ble_eq_true rfl⟩
theorem orH : Statement (.orH) := 
  fun _ => ⟨rfl, Nat.le_of_ble_eq_true rfl, Nat.le_of_ble_eq_true rfl⟩
theorem orL : Statement (.orL) := 
  fun _ => ⟨rfl, Nat.le_of_ble_eq_true rfl, Nat.le_of_ble_eq_true rfl⟩
theorem orIndHl : Statement (.orIndHl) := 
  fun _ => ⟨rfl, Nat.le_of_ble_eq_true rfl, Nat.le_of_ble_eq_true rfl⟩
theorem orA : Statement (.orA) := 
  fun _ => ⟨rfl, Nat.le_of_ble_eq_true rfl, Nat.le_of_ble_eq_true rfl⟩
theorem cpB : Statement (.cpB) := 
  fun _ => ⟨rfl, Nat.le_of_ble_eq_true rfl, Nat.le_of_ble_eq_true rfl⟩
theorem cpC : Statement (.cpC) := 
  fun _ => ⟨rfl, Nat.le_of_ble_eq_true rfl, Nat.le_of_ble_eq_true rfl⟩
theorem cpD : Statement (.cpD) := 
  fun _ => ⟨rfl, Nat.le_of_ble_eq_true rfl, Nat.le_of_ble_eq_true rfl⟩
theorem cpE : Statement (.cpE) := 
  fun _ => ⟨rfl, Nat.le_of_ble_eq_true rfl, Nat.le_of_ble_eq_true rfl⟩
theorem cpH : Statement (.cpH) := 
  fun _ => ⟨rfl, Nat.le_of_ble_eq_true rfl, Nat.le_of_ble_eq_true rfl⟩
theorem cpL : Statement (.cpL) := 
  fun _ => ⟨rfl, Nat.le_of_ble_eq_true rfl, Nat.le_of_ble_eq_true rfl⟩
theorem cpIndHl : Statement (.cpIndHl) := 
  fun _ => ⟨rfl, Nat.le_of_ble_eq_true rfl, Nat.le_of_ble_eq_true rfl⟩
theorem cpA : Statement (.cpA) := 
  fun _ => ⟨rfl, Nat.le_of_ble_eq_true rfl, Nat.le_of_ble_eq_true rfl⟩
theorem retNz : Statement (.retNz) := 
  fun _ => ⟨rfl, Nat.le_of_ble_eq_true rfl, Nat.le_of_ble_eq_true rfl⟩
theorem popBc : Statement (.popBc) := 
  fun _ => ⟨rfl, Nat.le_of_ble_eq_true rfl, Nat.le_of_ble_eq_true rfl⟩
theorem jpNzA16 (nn : Word) : Statement (.jpNzA16 nn) := 
  fun _ => ⟨rfl, Nat.le_of_ble_eq_true rfl, Nat.le_of_ble_eq_true rfl⟩
theorem jpA16 (nn : Word) : Statement (.jpA16 nn) := 
  fun _ => ⟨rfl, Nat.le_of_ble_eq_true rfl, Nat.le_of_ble_eq_true rfl⟩
theorem callNzA16 (nn : Word) : Statement (.callNzA16 nn) := 
  fun _ => ⟨rfl, Nat.le_of_ble_eq_true rfl, Nat.le_of_ble_eq_true rfl⟩
theorem pushBc : Statement (.pushBc) := 
  fun _ => ⟨rfl, Nat.le_of_ble_eq_true rfl, Nat.le_of_ble_eq_true rfl⟩
theorem addAD8 (n : Byte) : Statement (.addAD8 n) := 
  fun _ => ⟨rfl, Nat.le_of_ble_eq_true rfl, Nat.le_of_ble_eq_true rfl⟩
theorem rst00 : Statement (.rst00) := 
  fun _ => ⟨rfl, Nat.le_of_ble_eq_true rfl, Nat.le_of_ble_eq_true rfl⟩
theorem retZ : Statement (.retZ) := 
  fun _ => ⟨rfl, Nat.le_of_ble_eq_true rfl, Nat.le_of_ble_eq_true rfl⟩
theorem ret : Statement (.ret) := 
  fun _ => ⟨rfl, Nat.le_of_ble_eq_true rfl, Nat.le_of_ble_eq_true rfl⟩
theorem jpZA16 (nn : Word) : Statement (.jpZA16 nn) := 
  fun _ => ⟨rfl, Nat.le_of_ble_eq_true rfl, Nat.le_of_ble_eq_true rfl⟩
theorem prefixCb : Statement .prefixCb := fun h => absurd h (by decide)
theorem callZA16 (nn : Word) : Statement (.callZA16 nn) := 
  fun _ => ⟨rfl, Nat.le_of_ble_eq_true rfl, Nat.le_of_ble_eq_true rfl⟩
theorem callA16 (nn : Word) : Statement (.callA16 nn) := 
  fun _ => ⟨rfl, Nat.le_of_ble_eq_true rfl, Nat.le_of_ble_eq_true rfl⟩
theorem adcAD8 (n : Byte) : Statement (.adcAD8 n) := 
  fun _ => ⟨rfl, Nat.le_of_ble_eq_true rfl, Nat.le_of_ble_eq_true rfl⟩
theorem rst08 : Statement (.rst08) := 
  fun _ => ⟨rfl, Nat.le_of_ble_eq_true rfl, Nat.le_of_ble_eq_true rfl⟩
theorem retNc : Statement (.retNc) := 
  fun _ => ⟨rfl, Nat.le_of_ble_eq_true rfl, Nat.le_of_ble_eq_true rfl⟩
theorem popDe : Statement (.popDe) := 
  fun _ => ⟨rfl, Nat.le_of_ble_eq_true rfl, Nat.le_of_ble_eq_true rfl⟩
theorem jpNcA16 (nn : Word) : Statement (.jpNcA16 nn) := 
  fun _ => ⟨rfl, Nat.le_of_ble_eq_true rfl, Nat.le_of_ble_eq_true rfl⟩
theorem invalid (op : Byte) : Statement (.invalid op) := by
  have key : ∀ op : Byte, invalidSlots.contains op = true → instrLength op = 1 := by decide +kernel
  intro h
  exact ⟨(key op h).symm, Nat.le_of_ble_eq_true rfl, Nat.le_of_ble_eq_true rfl⟩
theorem callNcA16 (nn : Word) : Statement (.callNcA16 nn) := 
  fun _ => ⟨rfl, Nat.le_of_ble_eq_true rfl, Nat.le_of_ble_eq_true rfl⟩
theorem pushDe : Statement (.pushDe) := 
  fun _ => ⟨rfl, Nat.le_of_ble_eq_true rfl, Nat.le_of_ble_eq_true rfl⟩
theorem subD8 (n : Byte) : Statement (.subD8 n) := 
  fun _ => ⟨rfl, Nat.le_of_ble_eq_true rfl, Nat.le_of_ble_eq_true rfl⟩
theorem rst10 : Statement (.rst10) := 
  fun _ => ⟨rfl, Nat.le_of_ble_eq_true rfl, Nat.le_of_ble_eq_true rfl⟩
theorem retC : Statement (.retC) := 
  fun _ => ⟨rfl, Nat.le_of_ble_eq_true rfl, Nat.le_of_ble_eq_true rfl⟩
theorem reti : Statement (.reti) := 
  fun _ => ⟨rfl, Nat.le_of_ble_eq_true rfl, Nat.le_of_ble_eq_true rfl⟩
theorem jpCA16 (nn : Word) : Statement (.jpCA16 nn) := 
  fun _ => ⟨rfl, Nat.le_of_ble_eq_true rfl, Nat.le_of_ble_eq_true rfl⟩
theorem callCA16 (nn : Word) : Statement (.callCA16 nn) := 
  fun _ => ⟨rfl, Nat.le_of_ble_eq_true rfl, Nat.le_of_ble_eq_true rfl⟩
theorem sbcAD8 (n : Byte) : Statement (.sbcAD8 n) := 
  fun _ => ⟨rfl, Nat.le_of_ble_eq_true rfl, Nat.le_of_ble_eq_true rfl⟩
theorem rst18 : Statement (.rst18) := 
  fun _ => ⟨rfl, Nat.le_of_ble_eq_true rfl, Nat.le_of_ble_eq_true rfl⟩
theorem ldhIndA8A (n : Byte) : Statement (.ldhIndA8A n) := 
  fun _ => ⟨rfl, Nat.le_of_ble_eq_true rfl, Nat.le_of_ble_eq_true rfl⟩
theorem popHl : Statement (.popHl) := 
  fun _ => ⟨rfl, Nat.le_of_ble_eq_true rfl, Nat.le_of_ble_eq_true rfl⟩
theorem ldIndCA : Statement (.ldIndCA) := 
  fun _ => ⟨rfl, Nat.le_of_ble_eq_true rfl, Nat.le_of_ble_eq_true rfl⟩
theorem pushHl : Statement (.pushHl) := 
  fun _ => ⟨rfl, Nat.le_of_ble_eq_true rfl, Nat.le_of_ble_eq_true rfl⟩
theorem andD8 (n : Byte) : Statement (.andD8 n) := 
  fun _ => ⟨rfl, Nat.le_of_ble_eq_true rfl, Nat.le_of_ble_eq_true rfl⟩
theorem rst20 : Statement (.rst20) := 
  fun _ => ⟨rfl, Nat.le_of_ble_eq_true rfl, Nat.le_of_ble_eq_true rfl⟩
theorem addSpR8 (e : Byte) : Statement (.addSpR8 e) := 
  fun _ => ⟨rfl, Nat.le_of_ble_eq_true rfl, Nat.le_of_ble_eq_true rfl⟩
theorem jpIndHl : Statement (.jpIndHl) := 
  fun _ => ⟨rfl, Nat.le_of_ble_eq_true rfl, Nat.le_of_ble_eq_true rfl⟩
theorem ldIndA16A (nn : Word) : Statement (.ldIndA16A nn) := 
  fun _ => ⟨rfl, Nat.le_of_ble_eq_true rfl, Nat.le_of_ble_eq_true rfl⟩
theorem xorD8 (n : Byte) : Statement (.xorD8 n) := 
  fun _ => ⟨rfl, Nat.le_of_ble_eq_true rfl, Nat.le_of_ble_eq_true rfl⟩
theorem rst28 : Statement (.rst28) := 
  fun _ => ⟨rfl, Nat.le_of_ble_eq_true rfl, Nat.le_of_ble_eq_true rfl⟩
theorem ldhAIndA8 (n : Byte) : Statement (.ldhAIndA8 n) := 
  fun _ => ⟨rfl, Nat.le_of_ble_eq_true rfl, Nat.le_of_ble_eq_true rfl⟩
theorem popAf : Statement (.popAf) := 
  fun _ => ⟨rfl, Nat.le_of_ble_eq_true rfl, Nat.le_of_ble_eq_true rfl⟩
theorem ldAIndC : Statement (.ldAIndC) := 
  fun _ => ⟨rfl, Nat.le_of_ble_eq_true rfl, Nat.le_of_ble_eq_true rfl⟩
theorem di : Statement (.di) := 
  fun _ => ⟨rfl, Nat.le_of_ble_eq_true rfl, Nat.le_of_ble_eq_true rfl⟩
theorem pushAf : Statement (.pushAf) := 
  fun _ => ⟨rfl, Nat.le_of_ble_eq_true rfl, Nat.le_of_ble_eq_true rfl⟩
theorem orD8 (n : Byte) : Statement (.orD8 n) := 
  fun _ => ⟨rfl, Nat.le_of_ble_eq_true rfl, Nat.le_of_ble_eq_true rfl⟩
theorem rst30 : Statement (.rst30) := 
  fun _ => ⟨rfl, Nat.le_of_ble_eq_true rfl, Nat.le_of_ble_eq_true rfl⟩
theorem ldHlSpR8 (e : Byte) : Statement (.ldHlSpR8 e) := 
  fun _ => ⟨rfl, Nat.le_of_ble_eq_true rfl, Nat.le_of_ble_eq_true rfl⟩
theorem ldSpHl : Statement (.ldSpHl) := 
  fun _ => ⟨rfl, Nat.le_of_ble_eq_true rfl, Nat.le_of_ble_eq_true rfl⟩
theorem ldAIndA16 (nn : Word) : Statement (.ldAIndA16 nn) := 
  fun _ => ⟨rfl, Nat.le_of_ble_eq_true rfl, Nat.le_of_ble_eq_true rfl⟩
theorem ei : Statement (.ei) := 
  fun _ => ⟨rfl, Nat.le_of_ble_eq_true rfl, Nat.le_of_ble_eq_true rfl⟩
theorem cpD8 (n : Byte) : Statement (.cpD8 n) := 
  fun _ => ⟨rfl, Nat.le_of_ble_eq_true rfl, Nat.le_of_ble_eq_true rfl⟩
theorem rst38 : Statement (.rst38) := 
  fun _ => ⟨rfl, Nat.le_of_ble_eq_true rfl, Nat.le_of_ble_eq_true rfl⟩
theorem rlcB : Statement (.rlcB) := 
  fun _ => ⟨rfl, Nat.le_of_ble_eq_true rfl, Nat.le_of_ble_eq_true rfl⟩
theorem rlcC : Statement (.rlcC) := 
  fun _ => ⟨rfl, Nat.le_of_ble_eq_true rfl, Nat.le_of_ble_eq_true rfl⟩
theorem rlcD : Statement (.rlcD) := 
  fun _ => ⟨rfl, Nat.le_of_ble_eq_true rfl, Nat.le_of_ble_eq_true rfl⟩
theorem rlcE : Statement (.rlcE) := 
  fun _ => ⟨rfl, Nat.le_of_ble_eq_true rfl, Nat.le_of_ble_eq_true rfl⟩
theorem rlcH : Statement (.rlcH) := 
  fun _ => ⟨rfl, Nat.le_of_ble_eq_true rfl, Nat.le_of_ble_eq_true rfl⟩
theorem rlcL : Statement (.rlcL) := 
  fun _ => ⟨rfl, Nat.le_of_ble_eq_true rfl, Nat.le_of_ble_eq_true rfl⟩
theorem rlcIndHl : Statement (.rlcIndHl) := 
  fun _ => ⟨rfl, Nat.le_of_ble_eq_true rfl, Nat.le_of_ble_eq_true rfl⟩
theorem rlcA : Statement (.rlcA) := 
  fun _ => ⟨rfl, Nat.le_of_ble_eq_true rfl, Nat.le_of_ble_eq_true rfl⟩
theorem rrcB : Statement (.rrcB) := 
  fun _ => ⟨rfl, Nat.le_of_ble_eq_true rfl, Nat.le_of_ble_eq_true rfl⟩
theorem rrcC : Statement (.rrcC) := 
  fun _ => ⟨rfl, Nat.le_of_ble_eq_true rfl, Nat.le_of_ble_eq_true rfl⟩
theorem rrcD : Statement (.rrcD) := 
  fun _ => ⟨rfl, Nat.le_of_ble_eq_true rfl, Nat.le_of_ble_eq_true rfl⟩
theorem rrcE : Statement (.rrcE) := 
  fun _ => ⟨rfl, Nat.le_of_ble_eq_true rfl, Nat.le_of_ble_eq_true rfl⟩
theorem rrcH : Statement (.rrcH) := 
  fun _ => ⟨rfl, Nat.le_of_ble_eq_true rfl, Nat.le_of_ble_eq_true rfl⟩
theorem rrcL : Statement (.rrcL) := 
  fun _ => ⟨rfl, Nat.le_of_ble_eq_true rfl, Nat.le_of_ble_eq_true rfl⟩
theorem rrcIndHl : Statement (.rrcIndHl) := 
  fun _ => ⟨rfl, Nat.le_of_ble_eq_true rfl, Nat.le_of_ble_eq_true rfl⟩
theorem rrcA : Statement (.rrcA) := 
  fun _ => ⟨rfl, Nat.le_of_ble_eq_true rfl, Nat.le_of_ble_eq_true rfl⟩
theorem rlB : Statement (.rlB) := 
  fun _ => ⟨rfl, Nat.le_of_ble_eq_true rfl, Nat.le_of_ble_eq_true rfl⟩
theorem rlC : Statement (.rlC) := 
  fun _ => ⟨rfl, Nat.le_of_ble_eq_true rfl, Nat.le_of_ble_eq_true rfl⟩
theorem rlD : Statement (.rlD) := 
  fun _ => ⟨rfl, Nat.le_of_ble_eq_true rfl, Nat.le_of_ble_eq_true rfl⟩
theorem rlE : Statement (.rlE) := 
  fun _ => ⟨rfl, Nat.le_of_ble_eq_true rfl, Nat.le_of_ble_eq_true rfl⟩
theorem rlH : Statement (.rlH) := 
  fun _ => ⟨rfl, Nat.le_of_ble_eq_true rfl, Nat.le_of_ble_eq_true rfl⟩
theorem rlL : Statement (.rlL) := 
  fun _ => ⟨rfl, Nat.le_of_ble_eq_true rfl, Nat.le_of_ble_eq_true rfl⟩
theorem rlIndHl : Statement (.rlIndHl) := 
  fun _ => ⟨rfl, Nat.le_of_ble_eq_true rfl, Nat.le_of_ble_eq_true rfl⟩
theorem rlA : Statement (.rlA) := 
  fun _ => ⟨rfl, Nat.le_of_ble_eq_true rfl, Nat.le_of_ble_eq_true rfl⟩
theorem rrB : Statement (.rrB) := 
  fun _ => ⟨rfl, Nat.le_of_ble_eq_true rfl, Nat.le_of_ble_eq_true rfl⟩
theorem rrC : Statement (.rrC) := 
  fun _ => ⟨rfl, Nat.le_of_ble_eq_true rfl, Nat.le_of_ble_eq_true rfl⟩
theorem rrD : Statement (.rrD) := 
  fun _ => ⟨rfl, Nat.le_of_ble_eq_true rfl, Nat.le_of_ble_eq_true rfl⟩
theorem rrE : Statement (.rrE) := 
  fun _ => ⟨rfl, Nat.le_of_ble_eq_true rfl, Nat.le_of_ble_eq_true rfl⟩
theorem rrH : Statement (.rrH) := 
  fun _ => ⟨rfl, Nat.le_of_ble_eq_true rfl, Nat.le_of_ble_eq_true rfl⟩
theorem rrL : Statement (.rrL) := 
  fun _ => ⟨rfl, Nat.le_of_ble_eq_true rfl, Nat.le_of_ble_eq_true rfl⟩
theorem rrIndHl : Statement (.rrIndHl) := 
  fun _ => ⟨rfl, Nat.le_of_ble_eq_true rfl, Nat.le_of_ble_eq_true rfl⟩
theorem rrA : Statement (.rrA) := 
  fun _ => ⟨rfl, Nat.le_of_ble_eq_true rfl, Nat.le_of_ble_eq_true rfl⟩
theorem slaB : Statement (.slaB) := 
  fun _ => ⟨rfl, Nat.le_of_ble_eq_true rfl, Nat.le_of_ble_eq_true rfl⟩
theorem slaC : Statement (.slaC) := 
  fun _ => ⟨rfl, Nat.le_of_ble_eq_true rfl, Nat.le_of_ble_eq_true rfl⟩
theorem slaD : Statement (.slaD) := 
  fun _ => ⟨rfl, Nat.le_of_ble_eq_true rfl, Nat.le_of_ble_eq_true rfl⟩
theorem slaE : Statement (.slaE) := 
  fun _ => ⟨rfl, Nat.le_of_ble_eq_true rfl, Nat.le_of_ble_eq_true rfl⟩
theorem slaH : Statement (.slaH) := 
  fun _ => ⟨rfl, Nat.le_of_ble_eq_true rfl, Nat.le_of_ble_eq_true rfl⟩
theorem slaL : Statement (.slaL) := 
  fun _ => ⟨rfl, Nat.le_of_ble_eq_true rfl, Nat.le_of_ble_eq_true rfl⟩
theorem slaIndHl : Statement (.slaIndHl) := 
  fun _ => ⟨rfl, Nat.le_of_ble_eq_true rfl, Nat.le_of_ble_eq_true rfl⟩
theorem slaA : Statement (.slaA) := 
  fun _ => ⟨rfl, Nat.le_of_ble_eq_true rfl, Nat.le_of_ble_eq_true rfl⟩
theorem sraB : Statement (.sraB) := 
  fun _ => ⟨rfl, Nat.le_of_ble_eq_true rfl, Nat.le_of_ble_eq_true rfl⟩
theorem sraC : Statement (.sraC) := 
  fun _ => ⟨rfl, Nat.le_of_ble_eq_true rfl, Nat.le_of_ble_eq_true rfl⟩
theorem sraD : Statement (.sraD) := 
  fun _ => ⟨rfl, Nat.le_of_ble_eq_true rfl, Nat.le_of_ble_eq_true rfl⟩
theorem sraE : Statement (.sraE) := 
  fun _ => ⟨rfl, Nat.le_of_ble_eq_true rfl, Nat.le_of_ble_eq_true rfl⟩
theorem sraH : Statement (.sraH) := 
  fun _ => ⟨rfl, Nat.le_of_ble_eq_true rfl, Nat.le_of_ble_eq_true rfl⟩
theorem sraL : Statement (.sraL) := 
  fun _ => ⟨rfl, Nat.le_of_ble_eq_true rfl, Nat.le_of_ble_eq_true rfl⟩
theorem sraIndHl : Statement (.sraIndHl) := 
  fun _ => ⟨rfl, Nat.le_of_ble_eq_true rfl, Nat.le_of_ble_eq_true rfl⟩
theorem sraA : Statement (.sraA) := 
  fun _ => ⟨rfl, Nat.le_of_ble_eq_true rfl, Nat.le_of_ble_eq_true rfl⟩
theorem swapB : Statement (.swapB) := 
  fun _ => ⟨rfl, Nat.le_of_ble_eq_true rfl, Nat.le_of_ble_eq_true rfl⟩
theorem swapC : Statement (.swapC) := 
  fun _ => ⟨rfl, Nat.le_of_ble_eq_true rfl, Nat.le_of_ble_eq_true rfl⟩
theorem swapD : Statement (.swapD) := 
  fun _ => ⟨rfl, Nat.le_of_ble_eq_true rfl, Nat.le_of_ble_eq_true rfl⟩
theorem swapE : Statement (.swapE) := 
  fun _ => ⟨rfl, Nat.le_of_ble_eq_true rfl, Nat.le_of_ble_eq_true rfl⟩
theorem swapH : Statement (.swapH) := 
  fun _ => ⟨rfl, Nat.le_of_ble_eq_true rfl, Nat.le_of_ble_eq_true rfl⟩
theorem swapL : Statement (.swapL) := 
  fun _ => ⟨rfl, Nat.le_of_ble_eq_true rfl, Nat.le_of_ble_eq_true rfl⟩
theorem swapIndHl : Statement (.swapIndHl) := 
  fun _ => ⟨rfl, Nat.le_of_ble_eq_true rfl, Nat.le_of_ble_eq_true rfl⟩
theorem swapA : Statement (.swapA) := 
  fun _ => ⟨rfl, Nat.le_of_ble_eq_true rfl, Nat.le_of_ble_eq_true rfl⟩
theorem srlB : Statement (.srlB) := 
  fun _ => ⟨rfl, Nat.le_of_ble_eq_true rfl, Nat.le_of_ble_eq_true rfl⟩
theorem srlC : Statement (.srlC) := 
  fun _ => ⟨rfl, Nat.le_of_ble_eq_true rfl, Nat.le_of_ble_eq_true rfl⟩
theorem srlD : Statement (.srlD) := 
  fun _ => ⟨rfl, Nat.le_of_ble_eq_true rfl, Nat.le_of_ble_eq_true rfl⟩
theorem srlE : Statement (.srlE) := 
  fun _ => ⟨rfl, Nat.le_of_ble_eq_true rfl, Nat.le_of_ble_eq_true rfl⟩
theorem srlH : Statement (.srlH) := 
  fun _ => ⟨rfl, Nat.le_of_ble_eq_true rfl, Nat.le_of_ble_eq_true rfl⟩
theorem srlL : Statement (.srlL) := 
  fun _ => ⟨rfl, Nat.le_of_ble_eq_true rfl, Nat.le_of_ble_eq_true rfl⟩
theorem srlIndHl : Statement (.srlIndHl) := 
  fun _ => ⟨rfl, Nat.le_of_ble_eq_true rfl, Nat.le_of_ble_eq_true rfl⟩
theorem srlA : Statement (.srlA) := 
  fun _ => ⟨rfl, Nat.le_of_ble_eq_true rfl, Nat.le_of_ble_eq_true rfl⟩
theorem bit0B : Statement (.bit0B) := 
  fun _ => ⟨rfl, Nat.le_of_ble_eq_true rfl, Nat.le_of_ble_eq_true rfl⟩
theorem bit0C : Statement (.bit0C) := 
  fun _ => ⟨rfl, Nat.le_of_ble_eq_true rfl, Nat.le_of_ble_eq_true rfl⟩
theorem bit0D : Statement (.bit0D) := 
  fun _ => ⟨rfl, Nat.le_of_ble_eq_true rfl, Nat.le_of_ble_eq_true rfl⟩
theorem bit0E : Statement (.bit0E) := 
  fun _ => ⟨rfl, Nat.le_of_ble_eq_true rfl, Nat.le_of_ble_eq_true rfl⟩
theorem bit0H : Statement (.bit0H) := 
  fun _ => ⟨rfl, Nat.le_of_ble_eq_true rfl, Nat.le_of_ble_eq_true rfl⟩
theorem bit0L : Statement (.bit0L) := 
  fun _ => ⟨rfl, Nat.le_of_ble_eq_true rfl, Nat.le_of_ble_eq_true rfl⟩
theorem bit0IndHl : Statement (.bit0IndHl) := 
  fun _ => ⟨rfl, Nat.le_of_ble_eq_true rfl, Nat.le_of_ble_eq_true rfl⟩
theorem bit0A : Statement (.bit0A) := 
  fun _ => ⟨rfl, Nat.le_of_ble_eq_true rfl, Nat.le_of_ble_eq_true rfl⟩
theorem bit1B : Statement (.bit1B) := 
  fun _ => ⟨rfl, Nat.le_of_ble_eq_true rfl, Nat.le_of_ble_eq_true rfl⟩
theorem bit1C : Statement (.bit1C) := 
  fun _ => ⟨rfl, Nat.le_of_ble_eq_true rfl, Nat.le_of_ble_eq_true rfl⟩
theorem bit1D : Statement (.bit1D) := 
  fun _ => ⟨rfl, Nat.le_of_ble_eq_true rfl, Nat.le_of_ble_eq_true rfl⟩
theorem bit1E : Statement (.bit1E) := 
  fun _ => ⟨rfl, Nat.le_of_ble_eq_true rfl, Nat.le_of_ble_eq_true rfl⟩
theorem bit1H : Statement (.bit1H) := 
  fun _ => ⟨rfl, Nat.le_of_ble_eq_true rfl, Nat.le_of_ble_eq_true rfl⟩
theorem bit1L : Statement (.bit1L) := 
  fun _ => ⟨rfl, Nat.le_of_ble_eq_true rfl, Nat.le_of_ble_eq_true rfl⟩
theorem bit1IndHl : Statement (.bit1IndHl) := 
  fun _ => ⟨rfl, Nat.le_of_ble_eq_true rfl, Nat.le_of_ble_eq_true rfl⟩
theorem bit1A : Statement (.bit1A) := 
  fun _ => ⟨rfl, Nat.le_of_ble_eq_true rfl, Nat.le_of_ble_eq_true rfl⟩
theorem bit2B : Statement (.bit2B) := 
  fun _ => ⟨rfl, Nat.le_of_ble_eq_true rfl, Nat.le_of_ble_eq_true rfl⟩
theorem bit2C : Statement (.bit2C) := 
  fun _ => ⟨rfl, Nat.le_of_ble_eq_true rfl, Nat.le_of_ble_eq_true rfl⟩
theorem bit2D : Statement (.bit2D) := 
  fun _ => ⟨rfl, Nat.le_of_ble_eq_true rfl, Nat.le_of_ble_eq_true rfl⟩
theorem bit2E : Statement (.bit2E) := 
  fun _ => ⟨rfl, Nat.le_of_ble_eq_true rfl, Nat.le_of_ble_eq_true rfl⟩
theorem bit2H : Statement (.bit2H) := 
  fun _ => ⟨rfl, Nat.le_of_ble_eq_true rfl, Nat.le_of_ble_eq_true rfl⟩
theorem bit2L : Statement (.bit2L) := 
  fun _ => ⟨rfl, Nat.le_of_ble_eq_true rfl, Nat.le_of_ble_eq_true rfl⟩
theorem bit2IndHl : Statement (.bit2IndHl) := 
  fun _ => ⟨rfl, Nat.le_of_ble_eq_true rfl, Nat.le_of_ble_eq_true rfl⟩
theorem bit2A : Statement (.bit2A) := 
  fun _ => ⟨rfl, Nat.le_of_ble_eq_true rfl, Nat.le_of_ble_eq_true rfl⟩
theorem bit3B : Statement (.bit3B) := 
  fun _ => ⟨rfl, Nat.le_of_ble_eq_true rfl, Nat.le_of_ble_eq_true rfl⟩
theorem bit3C : Statement (.bit3C) := 
  fun _ => ⟨rfl, Nat.le_of_ble_eq_true rfl, Nat.le_of_ble_eq_true rfl⟩
theorem bit3D : Statement (.bit3D) := 
  fun _ => ⟨rfl, Nat.le_of_ble_eq_true rfl, Nat.le_of_ble_eq_true rfl⟩
theorem bit3E : Statement (.bit3E) := 
  fun _ => ⟨rfl, Nat.le_of_ble_eq_true rfl, Nat.le_of_ble_eq_true rfl⟩
theorem bit3H : Statement (.bit3H) := 
  fun _ => ⟨rfl, Nat.le_of_ble_eq_true rfl, Nat.le_of_ble_eq_true rfl⟩
theorem bit3L : Statement (.bit3L) := 
  fun _ => ⟨rfl, Nat.le_of_ble_eq_true rfl, Nat.le_of_ble_eq_true rfl⟩
theorem bit3IndHl : Statement (.bit3IndHl) := 
  fun _ => ⟨rfl, Nat.le_of_ble_eq_true rfl, Nat.le_of_ble_eq_true rfl⟩
theorem bit3A : Statement (.bit3A) := 
  fun _ => ⟨rfl, Nat.le_of_ble_eq_true rfl, Nat.le_of_ble_eq_true rfl⟩
theorem bit4B : Statement (.bit4B) := 
  fun _ => ⟨rfl, Nat.le_of_ble_eq_true rfl, Nat.le_of_ble_eq_true rfl⟩
theorem bit4C : Statement (.bit4C) := 
  fun _ => ⟨rfl, Nat.le_of_ble_eq_true rfl, Nat.le_of_ble_eq_true rfl⟩
theorem bit4D : Statement (.bit4D) := 
  fun _ => ⟨rfl, Nat.le_of_ble_eq_true rfl, Nat.le_of_ble_eq_true rfl⟩
theorem bit4E : Statement (.bit4E) := 
  fun _ => ⟨rfl, Nat.le_of_ble_eq_true rfl, Nat.le_of_ble_eq_true rfl⟩
theorem bit4H : Statement (.bit4H) := 
  fun _ => ⟨rfl, Nat.le_of_ble_eq_true rfl, Nat.le_of_ble_eq_true rfl⟩
theorem bit4L : Statement (.bit4L) := 
  fun _ => ⟨rfl, Nat.le_of_ble_eq_true rfl, Nat.le_of_ble_eq_true rfl⟩
theorem bit4IndHl : Statement (.bit4IndHl) := 
  fun _ => ⟨rfl, Nat.le_of_ble_eq_true rfl, Nat.le_of_ble_eq_true rfl⟩
theorem bit4A : Statement (.bit4A) := 
  fun _ => ⟨rfl, Nat.le_of_ble_eq_true rfl, Nat.le_of_ble_eq_true rfl⟩
theorem bit5B : Statement (.bit5B) := 
  fun _ => ⟨rfl, Nat.le_of_ble_eq_true rfl, Nat.le_of_ble_eq_true rfl⟩
theorem bit5C : Statement (.bit5C) := 
  fun _ => ⟨rfl, Nat.le_of_ble_eq_true rfl, Nat.le_of_ble_eq_true rfl⟩
theorem bit5D : Statement (.bit5D) := 
  fun _ => ⟨rfl, Nat.le_of_ble_eq_true rfl, Nat.le_of_ble_eq_true rfl⟩
theorem bit5E : Statement (.bit5E) := 
  fun _ => ⟨rfl, Nat.le_of_ble_eq_true rfl, Nat.le_of_ble_eq_true rfl⟩
theorem bit5H : Statement (.bit5H) := 
  fun _ => ⟨rfl, Nat.le_of_ble_eq_true rfl, Nat.le_of_ble_eq_true rfl⟩
theorem bit5L : Statement (.bit5L) := 
  fun _ => ⟨rfl, Nat.le_of_ble_eq_true rfl, Nat.le_of_ble_eq_true rfl⟩
theorem bit5IndHl : Statement (.bit5IndHl) := 
  fun _ => ⟨rfl, Nat.le_of_ble_eq_true rfl, Nat.le_of_ble_eq_true rfl⟩
theorem bit5A : Statement (.bit5A) := 
  fun _ => ⟨rfl, Nat.le_of_ble_eq_true rfl, Nat.le_of_ble_eq_true rfl⟩
theorem bit6B : Statement (.bit6B) := 
  fun _ => ⟨rfl, Nat.le_of_ble_eq_true rfl, Nat.le_of_ble_eq_true rfl⟩
theorem bit6C : Statement (.bit6C) := 
  fun _ => ⟨rfl, Nat.le_of_ble_eq_true rfl, Nat.le_of_ble_eq_true rfl⟩
theorem bit6D : Statement (.bit6D) := 
  fun _ => ⟨rfl, Nat.le_of_ble_eq_true rfl, Nat.le_of_ble_eq_true rfl⟩
theorem bit6E : Statement (.bit6E) := 
  fun _ => ⟨rfl, Nat.le_of_ble_eq_true rfl, Nat.le_of_ble_eq_true rfl⟩
theorem bit6H : Statement (.bit6H) := 
  fun _ => ⟨rfl, Nat.le_of_ble_eq_true rfl, Nat.le_of_ble_eq_true rfl⟩
theorem bit6L : Statement (.bit6L) := 
  fun _ => ⟨rfl, Nat.le_of_ble_eq_true rfl, Nat.le_of_ble_eq_true rfl⟩
theorem bit6IndHl : Statement (.bit6IndHl) := 
  fun _ => ⟨rfl, Nat.le_of_ble_eq_true rfl, Nat.le_of_ble_eq_true rfl⟩
theorem bit6A : Statement (.bit6A) := 
  fun _ => ⟨rfl, Nat.le_of_ble_eq_true rfl, Nat.le_of_ble_eq_true rfl⟩
theorem bit7B : Statement (.bit7B) := 
  fun _ => ⟨rfl, Nat.le_of_ble_eq_true rfl, Nat.le_of_ble_eq_true rfl⟩
theorem bit7C : Statement (.bit7C) := 
  fun _ => ⟨rfl, Nat.le_of_ble_eq_true rfl, Nat.le_of_ble_eq_true rfl⟩
theorem bit7D : Statement (.bit7D) := 
  fun _ => ⟨rfl, Nat.le_of_ble_eq_true rfl, Nat.le_of_ble_eq_true rfl⟩
theorem bit7E : Statement (.bit7E) := 
  fun _ => ⟨rfl, Nat.le_of_ble_eq_true rfl, Nat.le_of_ble_eq_true rfl⟩
theorem bit7H : Statement (.bit7H) := 
  fun _ => ⟨rfl, Nat.le_of_ble_eq_true rfl, Nat.le_of_ble_eq_true rfl⟩
theorem bit7L : Statement (.bit7L) := 
  fun _ => ⟨rfl, Nat.le_of_ble_eq_true rfl, Nat.le_of_ble_eq_true rfl⟩
theorem bit7IndHl : Statement (.bit7IndHl) := 
  fun _ => ⟨rfl, Nat.le_of_ble_eq_true rfl, Nat.le_of_ble_eq_true rfl⟩
theorem bit7A : Statement (.bit7A) := 
  fun _ => ⟨rfl, Nat.le_of_ble_eq_true rfl, Nat.le_of_ble_eq_true rfl⟩
theorem res0B : Statement (.res0B) := 
  fun _ => ⟨rfl, Nat.le_of_ble_eq_true rfl, Nat.le_of_ble_eq_true rfl⟩
theorem res0C : Statement (.res0C) := 
  fun _ => ⟨rfl, Nat.le_of_ble_eq_true rfl, Nat.le_of_ble_eq_true rfl⟩
theorem res0D : Statement (.res0D) := 
  fun _ => ⟨rfl, Nat.le_of_ble_eq_true rfl, Nat.le_of_ble_eq_true rfl⟩
theorem res0E : Statement (.res0E) := 
  fun _ => ⟨rfl, Nat.le_of_ble_eq_true rfl, Nat.le_of_ble_eq_true rfl⟩
theorem res0H : Statement (.res0H) := 
  fun _ => ⟨rfl, Nat.le_of_ble_eq_true rfl, Nat.le_of_ble_eq_true rfl⟩
theorem res0L : Statement (.res0L) := 
  fun _ => ⟨rfl, Nat.le_of_ble_eq_true rfl, Nat.le_of_ble_eq_true rfl⟩
theorem res0IndHl : Statement (.res0IndHl) := 
  fun _ => ⟨rfl, Nat.le_of_ble_eq_true rfl, Nat.le_of_ble_eq_true rfl⟩
theorem res0A : Statement (.res0A) := 
  fun _ => ⟨rfl, Nat.le_of_ble_eq_true rfl, Nat.le_of_ble_eq_true rfl⟩
theorem res1B : Statement (.res1B) := 
  fun _ => ⟨rfl, Nat.le_of_ble_eq_true rfl, Nat.le_of_ble_eq_true rfl⟩
theorem res1C : Statement (.res1C) := 
  fun _ => ⟨rfl, Nat.le_of_ble_eq_true rfl, Nat.le_of_ble_eq_true rfl⟩
theorem res1D : Statement (.res1D) := 
  fun _ => ⟨rfl, Nat.le_of_ble_eq_true rfl, Nat.le_of_ble_eq_true rfl⟩
theorem res1E : Statement (.res1E) := 
  fun _ => ⟨rfl, Nat.le_of_ble_eq_true rfl, Nat.le_of_ble_eq_true rfl⟩
theorem res1H : Statement (.res1H) := 
  fun _ => ⟨rfl, Nat.le_of_ble_eq_true rfl, Nat.le_of_ble_eq_true rfl⟩
theorem res1L : Statement (.res1L) := 
  fun _ => ⟨rfl, Nat.le_of_ble_eq_true rfl, Nat.le_of_ble_eq_true rfl⟩
theorem res1IndHl : Statement (.res1IndHl) := 
  fun _ => ⟨rfl, Nat.le_of_ble_eq_true rfl, Nat.le_of_ble_eq_true rfl⟩
theorem res1A : Statement (.res1A) := 
  fun _ => ⟨rfl, Nat.le_of_ble_eq_true rfl, Nat.le_of_ble_eq_true rfl⟩
theorem res2B : Statement (.res2B) := 
  fun _ => ⟨rfl, Nat.le_of_ble_eq_true rfl, Nat.le_of_ble_eq_true rfl⟩
theorem res2C : Statement (.res2C) := 
  fun _ => ⟨rfl, Nat.le_of_ble_eq_true rfl, Nat.le_of_ble_eq_true rfl⟩
theorem res2D : Statement (.res2D) := 
  fun _ => ⟨rfl, Nat.le_of_ble_eq_true rfl, Nat.le_of_ble_eq_true rfl⟩
theorem res2E : Statement (.res2E) := 
  fun _ => ⟨rfl, Nat.le_of_ble_eq_true rfl, Nat.le_of_ble_eq_true rfl⟩
theorem res2H : Statement (.res2H) := 
  fun _ => ⟨rfl, Nat.le_of_ble_eq_true rfl, Nat.le_of_ble_eq_true rfl⟩
theorem res2L : Statement (.res2L) := 
  fun _ => ⟨rfl, Nat.le_of_ble_eq_true rfl, Nat.le_of_ble_eq_true rfl⟩
theorem res2IndHl : Statement (.res2IndHl) := 
  fun _ => ⟨rfl, Nat.le_of_ble_eq_true rfl, Nat.le_of_ble_eq_true rfl⟩
theorem res2A : Statement (.res2A) := 
  fun _ => ⟨rfl, Nat.le_of_ble_eq_true rfl, Nat.le_of_ble_eq_true rfl⟩
theorem res3B : Statement (.res3B) := 
  fun _ => ⟨rfl, Nat.le_of_ble_eq_true rfl, Nat.le_of_ble_eq_true rfl⟩
theorem res3C : Statement (.res3C) := 
  fun _ => ⟨rfl, Nat.le_of_ble_eq_true rfl, Nat.le_of_ble_eq_true rfl⟩
theorem res3D : Statement (.res3D) := 
  fun _ => ⟨rfl, Nat.le_of_ble_eq_true rfl, Nat.le_of_ble_eq_true rfl⟩
theorem res3E : Statement (.res3E) := 
  fun _ => ⟨rfl, Nat.le_of_ble_eq_true rfl, Nat.le_of_ble_eq_true rfl⟩
theorem res3H : Statement (.res3H) := 
  fun _ => ⟨rfl, Nat.le_of_ble_eq_true rfl, Nat.le_of_ble_eq_true rfl⟩
theorem res3L : Statement (.res3L) := 
  fun _ => ⟨rfl, Nat.le_of_ble_eq_true rfl, Nat.le_of_ble_eq_true rfl⟩
theorem res3IndHl : Statement (.res3IndHl) := 
  fun _ => ⟨rfl, Nat.le_of_ble_eq_true rfl, Nat.le_of_ble_eq_true rfl⟩
theorem res3A : Statement (.res3A) := 
  fun _ => ⟨rfl, Nat.le_of_ble_eq_true rfl, Nat.le_of_ble_eq_true rfl⟩
theorem res4B : Statement (.res4B) := 
  fun _ => ⟨rfl, Nat.le_of_ble_eq_true rfl, Nat.le_of_ble_eq_true rfl⟩
theorem res4C : Statement (.res4C) := 
  fun _ => ⟨rfl, Nat.le_of_ble_eq_true rfl, Nat.le_of_ble_eq_true rfl⟩
theorem res4D : Statement (.res4D) := 
  fun _ => ⟨rfl, Nat.le_of_ble_eq_true rfl, Nat.le_of_ble_eq_true rfl⟩
theorem res4E : Statement (.res4E) := 
  fun _ => ⟨rfl, Nat.le_of_ble_eq_true rfl, Nat.le_of_ble_eq_true rfl⟩
theorem res4H : Statement (.res4H) := 
  fun _ => ⟨rfl, Nat.le_of_ble_eq_true rfl, Nat.le_of_ble_eq_true rfl⟩
theorem res4L : Statement (.res4L) := 
  fun _ => ⟨rfl, Nat.le_of_ble_eq_true rfl, Nat.le_of_ble_eq_true rfl⟩
theorem res4IndHl : Statement (.res4IndHl) := 
  fun _ => ⟨rfl, Nat.le_of_ble_eq_true rfl, Nat.le_of_ble_eq_true rfl⟩
theorem res4A : Statement (.res4A) := 
  fun _ => ⟨rfl, Nat.le_of_ble_eq_true rfl, Nat.le_of_ble_eq_true rfl⟩
theorem res5B : Statement (.res5B) := 
  fun _ => ⟨rfl, Nat.le_of_ble_eq_true rfl, Nat.le_of_ble_eq_true rfl⟩
theorem res5C : Statement (.res5C) := 
  fun _ => ⟨rfl, Nat.le_of_ble_eq_true rfl, Nat.le_of_ble_eq_true rfl⟩
theorem res5D : Statement (.res5D) := 
  fun _ => ⟨rfl, Nat.le_of_ble_eq_true rfl, Nat.le_of_ble_eq_true rfl⟩
theorem res5E : Statement (.res5E) := 
  fun _ => ⟨rfl, Nat.le_of_ble_eq_true rfl, Nat.le_of_ble_eq_true rfl⟩
theorem res5H : Statement (.res5H) := 
  fun _ => ⟨rfl, Nat.le_of_ble_eq_true rfl, Nat.le_of_ble_eq_true rfl⟩
theorem res5L : Statement (.res5L) := 
  fun _ => ⟨rfl, Nat.le_of_ble_eq_true rfl, Nat.le_of_ble_eq_true rfl⟩
theorem res5IndHl : Statement (.res5IndHl) := 
  fun _ => ⟨rfl, Nat.le_of_ble_eq_true rfl, Nat.le_of_ble_eq_true rfl⟩
theorem res5A : Statement (.res5A) := 
  fun _ => ⟨rfl, Nat.le_of_ble_eq_true rfl, Nat.le_of_ble_eq_true rfl⟩
theorem res6B : Statement (.res6B) := 
  fun _ => ⟨rfl, Nat.le_of_ble_eq_true rfl, Nat.le_of_ble_eq_true rfl⟩
theorem res6C : Statement (.res6C) := 
  fun _ => ⟨rfl, Nat.le_of_ble_eq_true rfl, Nat.le_of_ble_eq_true rfl⟩
theorem res6D : Statement (.res6D) := 
  fun _ => ⟨rfl, Nat.le_of_ble_eq_true rfl, Nat.le_of_ble_eq_true rfl⟩
theorem res6E : Statement (.res6E) := 
  fun _ => ⟨rfl, Nat.le_of_ble_eq_true rfl, Nat.le_of_ble_eq_true rfl⟩
theorem res6H : Statement (.res6H) := 
  fun _ => ⟨rfl, Nat.le_of_ble_eq_true rfl, Nat.le_of_ble_eq_true rfl⟩
theorem res6L : Statement (.res6L) := 
  fun _ => ⟨rfl, Nat.le_of_ble_eq_true rfl, Nat.le_of_ble_eq_true rfl⟩
theorem res6IndHl : Statement (.res6IndHl) := 
  fun _ => ⟨rfl, Nat.le_of_ble_eq_true rfl, Nat.le_of_ble_eq_true rfl⟩
theorem res6A : Statement (.res6A) := 
  fun _ => ⟨rfl, Nat.le_of_ble_eq_true rfl, Nat.le_of_ble_eq_true rfl⟩
theorem res7B : Statement (.res7B) := 
  fun _ => ⟨rfl, Nat.le_of_ble_eq_true rfl, Nat.le_of_ble_eq_true rfl⟩
theorem res7C : Statement (.res7C) := 
  fun _ => ⟨rfl, Nat.le_of_ble_eq_true rfl, Nat.le_of_ble_eq_true rfl⟩
theorem res7D : Statement (.res7D) := 
  fun _ => ⟨rfl, Nat.le_of_ble_eq_true rfl, Nat.le_of_ble_eq_true rfl⟩
theorem res7E : Statement (.res7E) := 
  fun _ => ⟨rfl, Nat.le_of_ble_eq_true rfl, Nat.le_of_ble_eq_true rfl⟩
theorem res7H : Statement (.res7H) := 
  fun _ => ⟨rfl, Nat.le_of_ble_eq_true rfl, Nat.le_of_ble_eq_true rfl⟩
theorem res7L : Statement (.res7L) := 
  fun _ => ⟨rfl, Nat.le_of_ble_eq_true rfl, Nat.le_of_ble_eq_true rfl⟩
theorem res7IndHl : Statement (.res7IndHl) := 
  fun _ => ⟨rfl, Nat.le_of_ble_eq_true rfl, Nat.le_of_ble_eq_true rfl⟩
theorem res7A : Statement (.res7A) := 
  fun _ => ⟨rfl, Nat.le_of_ble_eq_true rfl, Nat.le_of_ble_eq_true rfl⟩
theorem set0B : Statement (.set0B) := 
  fun _ => ⟨rfl, Nat.le_of_ble_eq_true rfl, Nat.le_of_ble_eq_true rfl⟩
theorem set0C : Statement (.set0C) := 
  fun _ => ⟨rfl, Nat.le_of_ble_eq_true rfl, Nat.le_of_ble_eq_true rfl⟩
theorem set0D : Statement (.set0D) := 
  fun _ => ⟨rfl, Nat.le_of_ble_eq_true rfl, Nat.le_of_ble_eq_true rfl⟩
theorem set0E : Statement (.set0E) := 
  fun _ => ⟨rfl, Nat.le_of_ble_eq_true rfl, Nat.le_of_ble_eq_true rfl⟩
theorem set0H : Statement (.set0H) := 
  fun _ => ⟨rfl, Nat.le_of_ble_eq_true rfl, Nat.le_of_ble_eq_true rfl⟩
theorem set0L : Statement (.set0L) := 
  fun _ => ⟨rfl, Nat.le_of_ble_eq_true rfl, Nat.le_of_ble_eq_true rfl⟩
theorem set0IndHl : Statement (.set0IndHl) := 
  fun _ => ⟨rfl, Nat.le_of_ble_eq_true rfl, Nat.le_of_ble_eq_true rfl⟩
theorem set0A : Statement (.set0A) := 
  fun _ => ⟨rfl, Nat.le_of_ble_eq_true rfl, Nat.le_of_ble_eq_true rfl⟩
theorem set1B : Statement (.set1B) := 
  fun _ => ⟨rfl, Nat.le_of_ble_eq_true rfl, Nat.le_of_ble_eq_true rfl⟩
theorem set1C : Statement (.set1C) := 
  fun _ => ⟨rfl, Nat.le_of_ble_eq_true rfl, Nat.le_of_ble_eq_true rfl⟩
theorem set1D : Statement (.set1D) := 
  fun _ => ⟨rfl, Nat.le_of_ble_eq_true rfl, Nat.le_of_ble_eq_true rfl⟩
theorem set1E : Statement (.set1E) := 
  fun _ => ⟨rfl, Nat.le_of_ble_eq_true rfl, Nat.le_of_ble_eq_true rfl⟩
theorem set1H : Statement (.set1H) := 
  fun _ => ⟨rfl, Nat.le_of_ble_eq_true rfl, Nat.le_of_ble_eq_true rfl⟩
theorem set1L : Statement (.set1L) := 
  fun _ => ⟨rfl, Nat.le_of_ble_eq_true rfl, Nat.le_of_ble_eq_true rfl⟩
theorem set1IndHl : Statement (.set1IndHl) := 
  fun _ => ⟨rfl, Nat.le_of_ble_eq_true rfl, Nat.le_of_ble_eq_true rfl⟩
theorem set1A : Statement (.set1A) := 
  fun _ => ⟨rfl, Nat.le_of_ble_eq_true rfl, Nat.le_of_ble_eq_true rfl⟩
theorem set2B : Statement (.set2B) := 
  fun _ => ⟨rfl, Nat.le_of_ble_eq_true rfl, Nat.le_of_ble_eq_true rfl⟩
theorem set2C : Statement (.set2C) := 
  fun _ => ⟨rfl, Nat.le_of_ble_eq_true rfl, Nat.le_of_ble_eq_true rfl⟩
theorem set2D : Statement (.set2D) := 
  fun _ => ⟨rfl, Nat.le_of_ble_eq_true rfl, Nat.le_of_ble_eq_true rfl⟩
theorem set2E : Statement (.set2E) := 
  fun _ => ⟨rfl, Nat.le_of_ble_eq_true rfl, Nat.le_of_ble_eq_true rfl⟩
theorem set2H : Statement (.set2H) := 
  fun _ => ⟨rfl, Nat.le_of_ble_eq_true rfl, Nat.le_of_ble_eq_true rfl⟩
theorem set2L : Statement (.set2L) := 
  fun _ => ⟨rfl, Nat.le_of_ble_eq_true rfl, Nat.le_of_ble_eq_true rfl⟩
theorem set2IndHl : Statement (.set2IndHl) := 
  fun _ => ⟨rfl, Nat.le_of_ble_eq_true rfl, Nat.le_of_ble_eq_true rfl⟩
theorem set2A : Statement (.set2A) := 
  fun _ => ⟨rfl, Nat.le_of_ble_eq_true rfl, Nat.le_of_ble_eq_true rfl⟩
theorem set3B : Statement (.set3B) := 
  fun _ => ⟨rfl, Nat.le_of_ble_eq_true rfl, Nat.le_of_ble_eq_true rfl⟩
theorem set3C : Statement (.set3C) := 
  fun _ => ⟨rfl, Nat.le_of_ble_eq_true rfl, Nat.le_of_ble_eq_true rfl⟩
theorem set3D : Statement (.set3D) := 
  fun _ => ⟨rfl, Nat.le_of_ble_eq_true rfl, Nat.le_of_ble_eq_true rfl⟩
theorem set3E : Statement (.set3E) := 
  fun _ => ⟨rfl, Nat.le_of_ble_eq_true rfl, Nat.le_of_ble_eq_true rfl⟩
theorem set3H : Statement (.set3H) := 
  fun _ => ⟨rfl, Nat.le_of_ble_eq_true rfl, Nat.le_of_ble_eq_true rfl⟩
theorem set3L : Statement (.set3L) := 
  fun _ => ⟨rfl, Nat.le_of_ble_eq_true rfl, Nat.le_of_ble_eq_true rfl⟩
theorem set3IndHl : Statement (.set3IndHl) := 
  fun _ => ⟨rfl, Nat.le_of_ble_eq_true rfl, Nat.le_of_ble_eq_true rfl⟩
theorem set3A : Statement (.set3A) := 
  fun _ => ⟨rfl, Nat.le_of_ble_eq_true rfl, Nat.le_of_ble_eq_true rfl⟩
theorem set4B : Statement (.set4B) := 
  fun _ => ⟨rfl, Nat.le_of_ble_eq_true rfl, Nat.le_of_ble_eq_true rfl⟩
theorem set4C : Statement (.set4C) := 
  fun _ => ⟨rfl, Nat.le_of_ble_eq_true rfl, Nat.le_of_ble_eq_true rfl⟩
theorem set4D : Statement (.set4D) := 
  fun _ => ⟨rfl, Nat.le_of_ble_eq_true rfl, Nat.le_of_ble_eq_true rfl⟩
theorem set4E : Statement (.set4E) := 
  fun _ => ⟨rfl, Nat.le_of_ble_eq_true rfl, Nat.le_of_ble_eq_true rfl⟩
theorem set4H : Statement (.set4H) := 
  fun _ => ⟨rfl, Nat.le_of_ble_eq_true rfl, Nat.le_of_ble_eq_true rfl⟩
theorem set4L : Statement (.set4L) := 
  fun _ => ⟨rfl, Nat.le_of_ble_eq_true rfl, Nat.le_of_ble_eq_true rfl⟩
theorem set4IndHl : Statement (.set4IndHl) := 
  fun _ => ⟨rfl, Nat.le_of_ble_eq_true rfl, Nat.le_of_ble_eq_true rfl⟩
theorem set4A : Statement (.set4A) := 
  fun _ => ⟨rfl, Nat.le_of_ble_eq_true rfl, Nat.le_of_ble_eq_true rfl⟩
theorem set5B : Statement (.set5B) := 
  fun _ => ⟨rfl, Nat.le_of_ble_eq_true rfl, Nat.le_of_ble_eq_true rfl⟩
theorem set5C : Statement (.set5C) := 
  fun _ => ⟨rfl, Nat.le_of_ble_eq_true rfl, Nat.le_of_ble_eq_true rfl⟩
theorem set5D : Statement (.set5D) := 
  fun _ => ⟨rfl, Nat.le_of_ble_eq_true rfl, Nat.le_of_ble_eq_true rfl⟩
theorem set5E : Statement (.set5E) := 
  fun _ => ⟨rfl, Nat.le_of_ble_eq_true rfl, Nat.le_of_ble_eq_true rfl⟩
theorem set5H : Statement (.set5H) := 
  fun _ => ⟨rfl, Nat.le_of_ble_eq_true rfl, Nat.le_of_ble_eq_true rfl⟩
theorem set5L : Statement (.set5L) := 
  fun _ => ⟨rfl, Nat.le_of_ble_eq_true rfl, Nat.le_of_ble_eq_true rfl⟩
theorem set5IndHl : Statement (.set5IndHl) := 
  fun _ => ⟨rfl, Nat.le_of_ble_eq_true rfl, Nat.le_of_ble_eq_true rfl⟩
theorem set5A : Statement (.set5A) := 
  fun _ => ⟨rfl, Nat.le_of_ble_eq_true rfl, Nat.le_of_ble_eq_true rfl⟩
theorem set6B : Statement (.set6B) := 
  fun _ => ⟨rfl, Nat.le_of_ble_eq_true rfl, Nat.le_of_ble_eq_true rfl⟩
theorem set6C : Statement (.set6C) := 
  fun _ => ⟨rfl, Nat.le_of_ble_eq_true rfl, Nat.le_of_ble_eq_true rfl⟩
theorem set6D : Statement (.set6D) := 
  fun _ => ⟨rfl, Nat.le_of_ble_eq_true rfl, Nat.le_of_ble_eq_true rfl⟩
theorem set6E : Statement (.set6E) := 
  fun _ => ⟨rfl, Nat.le_of_ble_eq_true rfl, Nat.le_of_ble_eq_true rfl⟩
theorem set6H : Statement (.set6H) := 
  fun _ => ⟨rfl, Nat.le_of_ble_eq_true rfl, Nat.le_of_ble_eq_true rfl⟩
theorem set6L : Statement (.set6L) := 
  fun _ => ⟨rfl, Nat.le_of_ble_eq_true rfl, Nat.le_of_ble_eq_true rfl⟩
theorem set6IndHl : Statement (.set6IndHl) := 
  fun _ => ⟨rfl, Nat.le_of_ble_eq_true rfl, Nat.le_of_ble_eq_true rfl⟩
theorem set6A : Statement (.set6A) := 
  fun _ => ⟨rfl, Nat.le_of_ble_eq_true rfl, Nat.le_of_ble_eq_true rfl⟩
theorem set7B : Statement (.set7B) := 
  fun _ => ⟨rfl, Nat.le_of_ble_eq_true rfl, Nat.le_of_ble_eq_true rfl⟩
theorem set7C : Statement (.set7C) := 
  fun _ => ⟨rfl, Nat.le_of_ble_eq_true rfl, Nat.le_of_ble_eq_true rfl⟩
theorem set7D : Statement (.set7D) := 
  fun _ => ⟨rfl, Nat.le_of_ble_eq_true rfl, Nat.le_of_ble_eq_true rfl⟩
theorem set7E : Statement (.set7E) := 
  fun _ => ⟨rfl, Nat.le_of_ble_eq_true rfl, Nat.le_of_ble_eq_true rfl⟩
theorem set7H : Statement (.set7H) := 
  fun _ => ⟨rfl, Nat.le_of_ble_eq_true rfl, Nat.le_of_ble_eq_true rfl⟩
theorem set7L : Statement (.set7L) := 
  fun _ => ⟨rfl, Nat.le_of_ble_eq_true rfl, Nat.le_of_ble_eq_true rfl⟩
theorem set7IndHl : Statement (.set7IndHl) := 
  fun _ => ⟨rfl, Nat.le_of_ble_eq_true rfl, Nat.le_of_ble_eq_true rfl⟩
theorem set7A : Statement (.set7A) := 
  fun _ => ⟨rfl, Nat.le_of_ble_eq_true rfl, Nat.le_of_ble_eq_true rfl⟩

end Sys2Proof.Laws.EncodedLength
end

