-- ==== Sys2Proof/Tests/Slice0.lean ====
section
/-! SUPPORT. Tests: the well-formedness checks, the decoder on words written out from the spec's encodings, single steps from the
spec's own vectors (95_test_vectors.md; V<n> in each comment), and for each obligation with hypotheses a state that meets them. -/

namespace Sys2Proof.Tests

set_option Elab.async false

open Sys2Proof Sys2Proof.Machine

/-! ## Well-formedness: an ill-formed term for each check -/

theorem test_wf_refuses_valid_opcode_as_invalid : (Instr.invalid 0x00).wf = false := by decide

theorem test_wf_refuses_prefix_as_invalid : (Instr.invalid 0xCB).wf = false := by decide

theorem test_wf_refuses_bare_prefix : Instr.prefixCb.wf = false := by decide

theorem test_wf_accepts_an_invalid_slot : (Instr.invalid 0xD3).wf = true := by decide

/-! ## Decoding: a word for every constructor (30_encoding.md R130, R131, R133), operands 0x34 and 0x1234 -/

/-- Each word decodes to its instruction and nothing is left over. -/
abbrev Decodes (rows : List (List Byte × Instr)) : Prop := ∀ r ∈ rows, (decode r.1).toOption = some (r.2, [])

/-- Primary opcodes 0x00 to 0x0F. -/
theorem test_decode_row_00 :
    Decodes
      [([0x00], .nop), ([0x01, 0x34, 0x12], .ldBcD16 0x1234), ([0x02], .ldIndBcA), ([0x03], .incBc),
        ([0x04], .incB), ([0x05], .decB), ([0x06, 0x34], .ldBD8 0x34), ([0x07], .rlca),
        ([0x08, 0x34, 0x12], .ldIndA16Sp 0x1234), ([0x09], .addHlBc), ([0x0A], .ldAIndBc), ([0x0B], .decBc),
        ([0x0C], .incC), ([0x0D], .decC), ([0x0E, 0x34], .ldCD8 0x34), ([0x0F], .rrca)] := by
  decide +kernel

/-- Primary opcodes 0x10 to 0x1F. -/
theorem test_decode_row_10 :
    Decodes
      [([0x10, 0x34], .stop), ([0x11, 0x34, 0x12], .ldDeD16 0x1234), ([0x12], .ldIndDeA), ([0x13], .incDe),
        ([0x14], .incD), ([0x15], .decD), ([0x16, 0x34], .ldDD8 0x34), ([0x17], .rla),
        ([0x18, 0x34], .jrR8 0x34), ([0x19], .addHlDe), ([0x1A], .ldAIndDe), ([0x1B], .decDe), ([0x1C], .incE),
        ([0x1D], .decE), ([0x1E, 0x34], .ldED8 0x34), ([0x1F], .rra)] := by
  decide +kernel

/-- Primary opcodes 0x20 to 0x2F. -/
theorem test_decode_row_20 :
    Decodes
      [([0x20, 0x34], .jrNzR8 0x34), ([0x21, 0x34, 0x12], .ldHlD16 0x1234), ([0x22], .ldIndHlIncA),
        ([0x23], .incHl), ([0x24], .incH), ([0x25], .decH), ([0x26, 0x34], .ldHD8 0x34), ([0x27], .daa),
        ([0x28, 0x34], .jrZR8 0x34), ([0x29], .addHlHl), ([0x2A], .ldAIndHlInc), ([0x2B], .decHl),
        ([0x2C], .incL), ([0x2D], .decL), ([0x2E, 0x34], .ldLD8 0x34), ([0x2F], .cpl)] := by
  decide +kernel

/-- Primary opcodes 0x30 to 0x3F. -/
theorem test_decode_row_30 :
    Decodes
      [([0x30, 0x34], .jrNcR8 0x34), ([0x31, 0x34, 0x12], .ldSpD16 0x1234), ([0x32], .ldIndHlDecA),
        ([0x33], .incSp), ([0x34], .incIndHl), ([0x35], .decIndHl), ([0x36, 0x34], .ldIndHlD8 0x34),
        ([0x37], .scf), ([0x38, 0x34], .jrCR8 0x34), ([0x39], .addHlSp), ([0x3A], .ldAIndHlDec),
        ([0x3B], .decSp), ([0x3C], .incA), ([0x3D], .decA), ([0x3E, 0x34], .ldAD8 0x34), ([0x3F], .ccf)] := by
  decide +kernel

/-- Primary opcodes 0x40 to 0x4F. -/
theorem test_decode_row_40 :
    Decodes
      [([0x40], .ldBB), ([0x41], .ldBC), ([0x42], .ldBD), ([0x43], .ldBE), ([0x44], .ldBH), ([0x45], .ldBL),
        ([0x46], .ldBIndHl), ([0x47], .ldBA), ([0x48], .ldCB), ([0x49], .ldCC), ([0x4A], .ldCD),
        ([0x4B], .ldCE), ([0x4C], .ldCH), ([0x4D], .ldCL), ([0x4E], .ldCIndHl), ([0x4F], .ldCA)] := by
  decide +kernel

/-- Primary opcodes 0x50 to 0x5F. -/
theorem test_decode_row_50 :
    Decodes
      [([0x50], .ldDB), ([0x51], .ldDC), ([0x52], .ldDD), ([0x53], .ldDE), ([0x54], .ldDH), ([0x55], .ldDL),
        ([0x56], .ldDIndHl), ([0x57], .ldDA), ([0x58], .ldEB), ([0x59], .ldEC), ([0x5A], .ldED),
        ([0x5B], .ldEE), ([0x5C], .ldEH), ([0x5D], .ldEL), ([0x5E], .ldEIndHl), ([0x5F], .ldEA)] := by
  decide +kernel

/-- Primary opcodes 0x60 to 0x6F. -/
theorem test_decode_row_60 :
    Decodes
      [([0x60], .ldHB), ([0x61], .ldHC), ([0x62], .ldHD), ([0x63], .ldHE), ([0x64], .ldHH), ([0x65], .ldHL),
        ([0x66], .ldHIndHl), ([0x67], .ldHA), ([0x68], .ldLB), ([0x69], .ldLC), ([0x6A], .ldLD),
        ([0x6B], .ldLE), ([0x6C], .ldLH), ([0x6D], .ldLL), ([0x6E], .ldLIndHl), ([0x6F], .ldLA)] := by
  decide +kernel

/-- Primary opcodes 0x70 to 0x7F. -/
theorem test_decode_row_70 :
    Decodes
      [([0x70], .ldIndHlB), ([0x71], .ldIndHlC), ([0x72], .ldIndHlD), ([0x73], .ldIndHlE), ([0x74], .ldIndHlH),
        ([0x75], .ldIndHlL), ([0x76], .halt), ([0x77], .ldIndHlA), ([0x78], .ldAB), ([0x79], .ldAC),
        ([0x7A], .ldAD), ([0x7B], .ldAE), ([0x7C], .ldAH), ([0x7D], .ldAL), ([0x7E], .ldAIndHl), ([0x7F], .ldAA)] := by
  decide +kernel

/-- Primary opcodes 0x80 to 0x8F. -/
theorem test_decode_row_80 :
    Decodes
      [([0x80], .addAB), ([0x81], .addAC), ([0x82], .addAD), ([0x83], .addAE), ([0x84], .addAH),
        ([0x85], .addAL), ([0x86], .addAIndHl), ([0x87], .addAA), ([0x88], .adcAB), ([0x89], .adcAC),
        ([0x8A], .adcAD), ([0x8B], .adcAE), ([0x8C], .adcAH), ([0x8D], .adcAL), ([0x8E], .adcAIndHl),
        ([0x8F], .adcAA)] := by
  decide +kernel

/-- Primary opcodes 0x90 to 0x9F. -/
theorem test_decode_row_90 :
    Decodes
      [([0x90], .subB), ([0x91], .subC), ([0x92], .subD), ([0x93], .subE), ([0x94], .subH), ([0x95], .subL),
        ([0x96], .subIndHl), ([0x97], .subA), ([0x98], .sbcAB), ([0x99], .sbcAC), ([0x9A], .sbcAD),
        ([0x9B], .sbcAE), ([0x9C], .sbcAH), ([0x9D], .sbcAL), ([0x9E], .sbcAIndHl), ([0x9F], .sbcAA)] := by
  decide +kernel

/-- Primary opcodes 0xA0 to 0xAF. -/
theorem test_decode_row_A0 :
    Decodes
      [([0xA0], .andB), ([0xA1], .andC), ([0xA2], .andD), ([0xA3], .andE), ([0xA4], .andH), ([0xA5], .andL),
        ([0xA6], .andIndHl), ([0xA7], .andA), ([0xA8], .xorB), ([0xA9], .xorC), ([0xAA], .xorD),
        ([0xAB], .xorE), ([0xAC], .xorH), ([0xAD], .xorL), ([0xAE], .xorIndHl), ([0xAF], .xorA)] := by
  decide +kernel

/-- Primary opcodes 0xB0 to 0xBF. -/
theorem test_decode_row_B0 :
    Decodes
      [([0xB0], .orB), ([0xB1], .orC), ([0xB2], .orD), ([0xB3], .orE), ([0xB4], .orH), ([0xB5], .orL),
        ([0xB6], .orIndHl), ([0xB7], .orA), ([0xB8], .cpB), ([0xB9], .cpC), ([0xBA], .cpD), ([0xBB], .cpE),
        ([0xBC], .cpH), ([0xBD], .cpL), ([0xBE], .cpIndHl), ([0xBF], .cpA)] := by
  decide +kernel

/-- Primary opcodes 0xC0 to 0xCF. -/
theorem test_decode_row_C0 :
    Decodes
      [([0xC0], .retNz), ([0xC1], .popBc), ([0xC2, 0x34, 0x12], .jpNzA16 0x1234),
        ([0xC3, 0x34, 0x12], .jpA16 0x1234), ([0xC4, 0x34, 0x12], .callNzA16 0x1234), ([0xC5], .pushBc),
        ([0xC6, 0x34], .addAD8 0x34), ([0xC7], .rst00), ([0xC8], .retZ), ([0xC9], .ret),
        ([0xCA, 0x34, 0x12], .jpZA16 0x1234), ([0xCC, 0x34, 0x12], .callZA16 0x1234),
        ([0xCD, 0x34, 0x12], .callA16 0x1234), ([0xCE, 0x34], .adcAD8 0x34), ([0xCF], .rst08)] := by
  decide +kernel

/-- Primary opcodes 0xD0 to 0xDF. -/
theorem test_decode_row_D0 :
    Decodes
      [([0xD0], .retNc), ([0xD1], .popDe), ([0xD2, 0x34, 0x12], .jpNcA16 0x1234), ([0xD3], .invalid 0xD3),
        ([0xD4, 0x34, 0x12], .callNcA16 0x1234), ([0xD5], .pushDe), ([0xD6, 0x34], .subD8 0x34),
        ([0xD7], .rst10), ([0xD8], .retC), ([0xD9], .reti), ([0xDA, 0x34, 0x12], .jpCA16 0x1234),
        ([0xDB], .invalid 0xDB), ([0xDC, 0x34, 0x12], .callCA16 0x1234), ([0xDD], .invalid 0xDD),
        ([0xDE, 0x34], .sbcAD8 0x34), ([0xDF], .rst18)] := by
  decide +kernel

/-- Primary opcodes 0xE0 to 0xEF. -/
theorem test_decode_row_E0 :
    Decodes
      [([0xE0, 0x34], .ldhIndA8A 0x34), ([0xE1], .popHl), ([0xE2], .ldIndCA), ([0xE3], .invalid 0xE3),
        ([0xE4], .invalid 0xE4), ([0xE5], .pushHl), ([0xE6, 0x34], .andD8 0x34), ([0xE7], .rst20),
        ([0xE8, 0x34], .addSpR8 0x34), ([0xE9], .jpIndHl), ([0xEA, 0x34, 0x12], .ldIndA16A 0x1234),
        ([0xEB], .invalid 0xEB), ([0xEC], .invalid 0xEC), ([0xED], .invalid 0xED), ([0xEE, 0x34], .xorD8 0x34),
        ([0xEF], .rst28)] := by
  decide +kernel

/-- Primary opcodes 0xF0 to 0xFF. -/
theorem test_decode_row_F0 :
    Decodes
      [([0xF0, 0x34], .ldhAIndA8 0x34), ([0xF1], .popAf), ([0xF2], .ldAIndC), ([0xF3], .di),
        ([0xF4], .invalid 0xF4), ([0xF5], .pushAf), ([0xF6, 0x34], .orD8 0x34), ([0xF7], .rst30),
        ([0xF8, 0x34], .ldHlSpR8 0x34), ([0xF9], .ldSpHl), ([0xFA, 0x34, 0x12], .ldAIndA16 0x1234),
        ([0xFB], .ei), ([0xFC], .invalid 0xFC), ([0xFD], .invalid 0xFD), ([0xFE, 0x34], .cpD8 0x34),
        ([0xFF], .rst38)] := by
  decide +kernel

/-- Extended opcodes 0x00 to 0x0F. -/
theorem test_decode_cb_row_00 :
    Decodes
      [([0xCB, 0x00], .rlcB), ([0xCB, 0x01], .rlcC), ([0xCB, 0x02], .rlcD), ([0xCB, 0x03], .rlcE),
        ([0xCB, 0x04], .rlcH), ([0xCB, 0x05], .rlcL), ([0xCB, 0x06], .rlcIndHl), ([0xCB, 0x07], .rlcA),
        ([0xCB, 0x08], .rrcB), ([0xCB, 0x09], .rrcC), ([0xCB, 0x0A], .rrcD), ([0xCB, 0x0B], .rrcE),
        ([0xCB, 0x0C], .rrcH), ([0xCB, 0x0D], .rrcL), ([0xCB, 0x0E], .rrcIndHl), ([0xCB, 0x0F], .rrcA)] := by
  decide +kernel

/-- Extended opcodes 0x10 to 0x1F. -/
theorem test_decode_cb_row_10 :
    Decodes
      [([0xCB, 0x10], .rlB), ([0xCB, 0x11], .rlC), ([0xCB, 0x12], .rlD), ([0xCB, 0x13], .rlE),
        ([0xCB, 0x14], .rlH), ([0xCB, 0x15], .rlL), ([0xCB, 0x16], .rlIndHl), ([0xCB, 0x17], .rlA),
        ([0xCB, 0x18], .rrB), ([0xCB, 0x19], .rrC), ([0xCB, 0x1A], .rrD), ([0xCB, 0x1B], .rrE),
        ([0xCB, 0x1C], .rrH), ([0xCB, 0x1D], .rrL), ([0xCB, 0x1E], .rrIndHl), ([0xCB, 0x1F], .rrA)] := by
  decide +kernel

/-- Extended opcodes 0x20 to 0x2F. -/
theorem test_decode_cb_row_20 :
    Decodes
      [([0xCB, 0x20], .slaB), ([0xCB, 0x21], .slaC), ([0xCB, 0x22], .slaD), ([0xCB, 0x23], .slaE),
        ([0xCB, 0x24], .slaH), ([0xCB, 0x25], .slaL), ([0xCB, 0x26], .slaIndHl), ([0xCB, 0x27], .slaA),
        ([0xCB, 0x28], .sraB), ([0xCB, 0x29], .sraC), ([0xCB, 0x2A], .sraD), ([0xCB, 0x2B], .sraE),
        ([0xCB, 0x2C], .sraH), ([0xCB, 0x2D], .sraL), ([0xCB, 0x2E], .sraIndHl), ([0xCB, 0x2F], .sraA)] := by
  decide +kernel

/-- Extended opcodes 0x30 to 0x3F. -/
theorem test_decode_cb_row_30 :
    Decodes
      [([0xCB, 0x30], .swapB), ([0xCB, 0x31], .swapC), ([0xCB, 0x32], .swapD), ([0xCB, 0x33], .swapE),
        ([0xCB, 0x34], .swapH), ([0xCB, 0x35], .swapL), ([0xCB, 0x36], .swapIndHl), ([0xCB, 0x37], .swapA),
        ([0xCB, 0x38], .srlB), ([0xCB, 0x39], .srlC), ([0xCB, 0x3A], .srlD), ([0xCB, 0x3B], .srlE),
        ([0xCB, 0x3C], .srlH), ([0xCB, 0x3D], .srlL), ([0xCB, 0x3E], .srlIndHl), ([0xCB, 0x3F], .srlA)] := by
  decide +kernel

/-- Extended opcodes 0x40 to 0x4F. -/
theorem test_decode_cb_row_40 :
    Decodes
      [([0xCB, 0x40], .bit0B), ([0xCB, 0x41], .bit0C), ([0xCB, 0x42], .bit0D), ([0xCB, 0x43], .bit0E),
        ([0xCB, 0x44], .bit0H), ([0xCB, 0x45], .bit0L), ([0xCB, 0x46], .bit0IndHl), ([0xCB, 0x47], .bit0A),
        ([0xCB, 0x48], .bit1B), ([0xCB, 0x49], .bit1C), ([0xCB, 0x4A], .bit1D), ([0xCB, 0x4B], .bit1E),
        ([0xCB, 0x4C], .bit1H), ([0xCB, 0x4D], .bit1L), ([0xCB, 0x4E], .bit1IndHl), ([0xCB, 0x4F], .bit1A)] := by
  decide +kernel

/-- Extended opcodes 0x50 to 0x5F. -/
theorem test_decode_cb_row_50 :
    Decodes
      [([0xCB, 0x50], .bit2B), ([0xCB, 0x51], .bit2C), ([0xCB, 0x52], .bit2D), ([0xCB, 0x53], .bit2E),
        ([0xCB, 0x54], .bit2H), ([0xCB, 0x55], .bit2L), ([0xCB, 0x56], .bit2IndHl), ([0xCB, 0x57], .bit2A),
        ([0xCB, 0x58], .bit3B), ([0xCB, 0x59], .bit3C), ([0xCB, 0x5A], .bit3D), ([0xCB, 0x5B], .bit3E),
        ([0xCB, 0x5C], .bit3H), ([0xCB, 0x5D], .bit3L), ([0xCB, 0x5E], .bit3IndHl), ([0xCB, 0x5F], .bit3A)] := by
  decide +kernel

/-- Extended opcodes 0x60 to 0x6F. -/
theorem test_decode_cb_row_60 :
    Decodes
      [([0xCB, 0x60], .bit4B), ([0xCB, 0x61], .bit4C), ([0xCB, 0x62], .bit4D), ([0xCB, 0x63], .bit4E),
        ([0xCB, 0x64], .bit4H), ([0xCB, 0x65], .bit4L), ([0xCB, 0x66], .bit4IndHl), ([0xCB, 0x67], .bit4A),
        ([0xCB, 0x68], .bit5B), ([0xCB, 0x69], .bit5C), ([0xCB, 0x6A], .bit5D), ([0xCB, 0x6B], .bit5E),
        ([0xCB, 0x6C], .bit5H), ([0xCB, 0x6D], .bit5L), ([0xCB, 0x6E], .bit5IndHl), ([0xCB, 0x6F], .bit5A)] := by
  decide +kernel

/-- Extended opcodes 0x70 to 0x7F. -/
theorem test_decode_cb_row_70 :
    Decodes
      [([0xCB, 0x70], .bit6B), ([0xCB, 0x71], .bit6C), ([0xCB, 0x72], .bit6D), ([0xCB, 0x73], .bit6E),
        ([0xCB, 0x74], .bit6H), ([0xCB, 0x75], .bit6L), ([0xCB, 0x76], .bit6IndHl), ([0xCB, 0x77], .bit6A),
        ([0xCB, 0x78], .bit7B), ([0xCB, 0x79], .bit7C), ([0xCB, 0x7A], .bit7D), ([0xCB, 0x7B], .bit7E),
        ([0xCB, 0x7C], .bit7H), ([0xCB, 0x7D], .bit7L), ([0xCB, 0x7E], .bit7IndHl), ([0xCB, 0x7F], .bit7A)] := by
  decide +kernel

/-- Extended opcodes 0x80 to 0x8F. -/
theorem test_decode_cb_row_80 :
    Decodes
      [([0xCB, 0x80], .res0B), ([0xCB, 0x81], .res0C), ([0xCB, 0x82], .res0D), ([0xCB, 0x83], .res0E),
        ([0xCB, 0x84], .res0H), ([0xCB, 0x85], .res0L), ([0xCB, 0x86], .res0IndHl), ([0xCB, 0x87], .res0A),
        ([0xCB, 0x88], .res1B), ([0xCB, 0x89], .res1C), ([0xCB, 0x8A], .res1D), ([0xCB, 0x8B], .res1E),
        ([0xCB, 0x8C], .res1H), ([0xCB, 0x8D], .res1L), ([0xCB, 0x8E], .res1IndHl), ([0xCB, 0x8F], .res1A)] := by
  decide +kernel

/-- Extended opcodes 0x90 to 0x9F. -/
theorem test_decode_cb_row_90 :
    Decodes
      [([0xCB, 0x90], .res2B), ([0xCB, 0x91], .res2C), ([0xCB, 0x92], .res2D), ([0xCB, 0x93], .res2E),
        ([0xCB, 0x94], .res2H), ([0xCB, 0x95], .res2L), ([0xCB, 0x96], .res2IndHl), ([0xCB, 0x97], .res2A),
        ([0xCB, 0x98], .res3B), ([0xCB, 0x99], .res3C), ([0xCB, 0x9A], .res3D), ([0xCB, 0x9B], .res3E),
        ([0xCB, 0x9C], .res3H), ([0xCB, 0x9D], .res3L), ([0xCB, 0x9E], .res3IndHl), ([0xCB, 0x9F], .res3A)] := by
  decide +kernel

/-- Extended opcodes 0xA0 to 0xAF. -/
theorem test_decode_cb_row_A0 :
    Decodes
      [([0xCB, 0xA0], .res4B), ([0xCB, 0xA1], .res4C), ([0xCB, 0xA2], .res4D), ([0xCB, 0xA3], .res4E),
        ([0xCB, 0xA4], .res4H), ([0xCB, 0xA5], .res4L), ([0xCB, 0xA6], .res4IndHl), ([0xCB, 0xA7], .res4A),
        ([0xCB, 0xA8], .res5B), ([0xCB, 0xA9], .res5C), ([0xCB, 0xAA], .res5D), ([0xCB, 0xAB], .res5E),
        ([0xCB, 0xAC], .res5H), ([0xCB, 0xAD], .res5L), ([0xCB, 0xAE], .res5IndHl), ([0xCB, 0xAF], .res5A)] := by
  decide +kernel

/-- Extended opcodes 0xB0 to 0xBF. -/
theorem test_decode_cb_row_B0 :
    Decodes
      [([0xCB, 0xB0], .res6B), ([0xCB, 0xB1], .res6C), ([0xCB, 0xB2], .res6D), ([0xCB, 0xB3], .res6E),
        ([0xCB, 0xB4], .res6H), ([0xCB, 0xB5], .res6L), ([0xCB, 0xB6], .res6IndHl), ([0xCB, 0xB7], .res6A),
        ([0xCB, 0xB8], .res7B), ([0xCB, 0xB9], .res7C), ([0xCB, 0xBA], .res7D), ([0xCB, 0xBB], .res7E),
        ([0xCB, 0xBC], .res7H), ([0xCB, 0xBD], .res7L), ([0xCB, 0xBE], .res7IndHl), ([0xCB, 0xBF], .res7A)] := by
  decide +kernel

/-- Extended opcodes 0xC0 to 0xCF. -/
theorem test_decode_cb_row_C0 :
    Decodes
      [([0xCB, 0xC0], .set0B), ([0xCB, 0xC1], .set0C), ([0xCB, 0xC2], .set0D), ([0xCB, 0xC3], .set0E),
        ([0xCB, 0xC4], .set0H), ([0xCB, 0xC5], .set0L), ([0xCB, 0xC6], .set0IndHl), ([0xCB, 0xC7], .set0A),
        ([0xCB, 0xC8], .set1B), ([0xCB, 0xC9], .set1C), ([0xCB, 0xCA], .set1D), ([0xCB, 0xCB], .set1E),
        ([0xCB, 0xCC], .set1H), ([0xCB, 0xCD], .set1L), ([0xCB, 0xCE], .set1IndHl), ([0xCB, 0xCF], .set1A)] := by
  decide +kernel

/-- Extended opcodes 0xD0 to 0xDF. -/
theorem test_decode_cb_row_D0 :
    Decodes
      [([0xCB, 0xD0], .set2B), ([0xCB, 0xD1], .set2C), ([0xCB, 0xD2], .set2D), ([0xCB, 0xD3], .set2E),
        ([0xCB, 0xD4], .set2H), ([0xCB, 0xD5], .set2L), ([0xCB, 0xD6], .set2IndHl), ([0xCB, 0xD7], .set2A),
        ([0xCB, 0xD8], .set3B), ([0xCB, 0xD9], .set3C), ([0xCB, 0xDA], .set3D), ([0xCB, 0xDB], .set3E),
        ([0xCB, 0xDC], .set3H), ([0xCB, 0xDD], .set3L), ([0xCB, 0xDE], .set3IndHl), ([0xCB, 0xDF], .set3A)] := by
  decide +kernel

/-- Extended opcodes 0xE0 to 0xEF. -/
theorem test_decode_cb_row_E0 :
    Decodes
      [([0xCB, 0xE0], .set4B), ([0xCB, 0xE1], .set4C), ([0xCB, 0xE2], .set4D), ([0xCB, 0xE3], .set4E),
        ([0xCB, 0xE4], .set4H), ([0xCB, 0xE5], .set4L), ([0xCB, 0xE6], .set4IndHl), ([0xCB, 0xE7], .set4A),
        ([0xCB, 0xE8], .set5B), ([0xCB, 0xE9], .set5C), ([0xCB, 0xEA], .set5D), ([0xCB, 0xEB], .set5E),
        ([0xCB, 0xEC], .set5H), ([0xCB, 0xED], .set5L), ([0xCB, 0xEE], .set5IndHl), ([0xCB, 0xEF], .set5A)] := by
  decide +kernel

/-- Extended opcodes 0xF0 to 0xFF. -/
theorem test_decode_cb_row_F0 :
    Decodes
      [([0xCB, 0xF0], .set6B), ([0xCB, 0xF1], .set6C), ([0xCB, 0xF2], .set6D), ([0xCB, 0xF3], .set6E),
        ([0xCB, 0xF4], .set6H), ([0xCB, 0xF5], .set6L), ([0xCB, 0xF6], .set6IndHl), ([0xCB, 0xF7], .set6A),
        ([0xCB, 0xF8], .set7B), ([0xCB, 0xF9], .set7C), ([0xCB, 0xFA], .set7D), ([0xCB, 0xFB], .set7E),
        ([0xCB, 0xFC], .set7H), ([0xCB, 0xFD], .set7L), ([0xCB, 0xFE], .set7IndHl), ([0xCB, 0xFF], .set7A)] := by
  decide +kernel

/-- One word a family, bit by bit: LD r,r' `01 ddd sss`, LD r,d8 `00 ddd 110`, LD rr,d16 `00 rr0 001`, PUSH `11 rr0 101`, ALU
`10 ooo rrr`, ALU d8 `11 ooo 110`, INC r `00 rrr 100`, DEC r `00 rrr 101`, ADD HL,rr `00 rr1 001`, JP cc `11 0cc 010`, JR cc
`00 1cc 000`, CALL cc `11 0cc 100`, RET cc `11 0cc 000`, RST `11 yyy 111`, LDH (a8),A `11 100 000`, HALT `01 110 110`
(30_encoding.md R123 to R130). -/
theorem test_decode_bits_primary :
    Decodes
      [([0b01011010], .ldED), ([0b00101110, 0x9F], .ldLD8 0x9F), ([0b00110001, 0xFE, 0xFF], .ldSpD16 0xFFFE),
        ([0b11110101], .pushAf), ([0b10011100], .sbcAH), ([0b11101110, 0x0F], .xorD8 0x0F), ([0b00110100], .incIndHl),
        ([0b00111101], .decA), ([0b00101001], .addHlHl), ([0b11011010, 0x00, 0xC0], .jpCA16 0xC000),
        ([0b00101000, 0x10], .jrZR8 0x10), ([0b11010100, 0x00, 0x20], .callNcA16 0x2000), ([0b11000000], .retNz),
        ([0b11101111], .rst28), ([0b11100000, 0x50], .ldhIndA8A 0x50), ([0b01110110], .halt)] := by
  decide

/-- The extended table bit by bit: `00 ooo rrr`, BIT `01 bbb rrr`, RES `10 bbb rrr`, SET `11 bbb rrr` (30_encoding.md R128, R131). -/
theorem test_decode_bits_extended :
    Decodes
      [([0b11001011, 0b00110111], .swapA), ([0b11001011, 0b00101000], .sraB), ([0b11001011, 0b01100110], .bit4IndHl),
        ([0b11001011, 0b10111110], .res7IndHl), ([0b11001011, 0b11000001], .set0C)] := by
  decide

/-- Too few bytes are no instruction, and 0xCB alone is none (30_encoding.md R134, R136). -/
theorem test_decode_truncated :
    decode [] = .error .noBytes ∧ decode [0x3E] = .error .truncated ∧ decode [0xC3, 0x00] = .error .truncated ∧
      decode [0xCB] = .error .truncated := by
  decide

/-- The opcode table's own numbers: LD A,d8 with a zero operand byte, CB rows with 0xCB in the high byte. -/
theorem test_decode_table_words :
    decodeTableWord 8 0x3E = some (.ldAD8 0x00) ∧ decodeTableWord 8 0xD3 = some (.invalid 0xD3) ∧
      decodeTableWord 16 0xCB37 = some .swapA ∧ decodeTableWord 8 0xC3 = some (.jpA16 0x0000) := by
  decide

/-! ## Single steps -/

/-- The machine of the spec's vectors: after construction, the boot ROM off, the PPU idle, the parameters its conventions name,
and the program in work RAM. -/
def start : State :=
  { State.reset with
    pc := 0xC000
    bootOff := true
    params := { haltWake := .resume, stopMode := .fault, ieReadOr := .noBits, serialCapture := false }
    ppu := { idle := true, vblank := false, rest := 0 } }

/-- Consecutive bytes stored from an address on. -/
def store (s : State) (a : Word) (bytes : List Byte) : State :=
  match bytes with
  | [] => s
  | v :: rest => store (s.memWrite a v) (a + 1) rest

/-- What `view` shows of the state one step leads to, with the bytes at PC. -/
def after {α : Type} (s : State) (bytes : List Byte) (view : State → α) : Option α :=
  match step (store s s.pc bytes) with
  | .next t => some (view t)
  | .fault _ => none
  | .refused _ => none

/-- The registers most vectors start from: A, F and one other register. -/
def withA (a f : Byte) : State := (start.setReg .a a).setFlags (unpackFlags f)

def viewA (t : State) : Byte × Byte × Nat := (t.regs.a, packFlags t.flags, t.cycles)

def viewReg (r : Reg8) (t : State) : Byte × Byte × Nat := (t.reg r, packFlags t.flags, t.cycles)

def viewPair (rr : Reg16) (t : State) : Word × Byte × Nat := (t.pair rr, packFlags t.flags, t.cycles)

def viewMem (a : Word) (t : State) : Byte × Byte × Nat := (t.memRead a, packFlags t.flags, t.cycles)

def viewFlow (t : State) : Word × Word × Nat := (t.pc, t.sp, t.cycles)

/-- V1, V50, V52, V53, V54, V55. -/
theorem test_loads :
    after (withA 0x42 0x00) [0xAF] (fun t => (viewA t, t.pc)) = some ((0x00, 0x80, 4), 0xC001) ∧
    after (start.setReg .b 0x12) [0x78] viewA = some (0x12, 0x00, 4) ∧
    after start [0x2E, 0x9F] (viewReg .l) = some (0x9F, 0x00, 8) ∧
    after (store (start.setPair .hl 0xC010) 0xC010 [0x5A]) [0x46] (viewReg .b) = some (0x5A, 0x00, 8) ∧
    after (start.setPair .hl 0xC010) [0x74] (viewMem 0xC010) = some (0xC0, 0x00, 8) ∧
    after (start.setPair .hl 0xC010) [0x36, 0x7F] (viewMem 0xC010) = some (0x7F, 0x00, 12) := by
  refine ⟨?_, ?_, ?_, ?_, ?_, ?_⟩ <;> decide +kernel

/-- V2: the second step stores to ROM bank 0, and V68: LD L,(HL) reads before it writes. -/
theorem test_load_store_rom :
    after start [0x21, 0x34, 0x12] (viewPair .hl) = some (0x1234, 0x00, 12) ∧
    after ((withA 0x99 0x00).setPair .hl 0x1234) [0x77] (viewMem 0x1234) = some (0x99, 0x00, 8) ∧
    after (store (start.setPair .hl 0xC100) 0xC100 [0x33]) [0x6E] (viewReg .l) = some (0x33, 0x00, 8) := by
  refine ⟨?_, ?_, ?_⟩ <;> decide +kernel

/-- V56 to V60, V62, V63. -/
theorem test_loads_of_a :
    after (store (start.setPair .bc 0xFF80) 0xFF80 [0x66]) [0x0A] viewA = some (0x66, 0x00, 8) ∧
    after ((withA 0x1F 0x00).setPair .de 0xFF0F) [0x12] (fun t => t.ifl) = some 0xFF ∧
    after (store start 0xC123 [0x77]) [0xFA, 0x23, 0xC1] viewA = some (0x77, 0x00, 16) ∧
    after (withA 0x05 0x00) [0xEA, 0x0F, 0xFF] (fun t => (t.ifl, t.cycles)) = some (0xE5, 16) ∧
    after (start.setDiv 0x1234) [0xF0, 0x04] viewA = some (0x12, 0x00, 12) ∧
    after (store (start.setReg .c 0x80) 0xFF80 [0x11]) [0xF2] viewA = some (0x11, 0x00, 8) ∧
    after ((withA 0x10 0x00).setReg .c 0xFF) [0xE2] (fun t => t.ie) = some 0x10 := by
  refine ⟨?_, ?_, ?_, ?_, ?_, ?_, ?_⟩ <;> decide +kernel

/-- V64 to V67. -/
theorem test_loads_with_step :
    after ((withA 0x01 0x00).setPair .hl 0xC100) [0x22] (fun t => (t.memRead 0xC100, t.hl, t.cycles)) =
      some (0x01, 0xC101, 8) ∧
    after ((withA 0x77 0x00).setPair .hl 0x0000) [0x32] (fun t => (t.memRead 0x0000, t.hl)) = some (0x77, 0xFFFF) ∧
    after ((start.setPair .hl 0xFFFF).setIe 0x1F) [0x2A] (fun t => (t.regs.a, t.hl)) = some (0x1F, 0x0000) ∧
    after (store (start.setPair .hl 0xC101) 0xC101 [0x0B]) [0x3A] (fun t => (t.regs.a, t.hl)) = some (0x0B, 0xC100) := by
  refine ⟨?_, ?_, ?_, ?_⟩ <;> decide +kernel

/-- V70 to V75. -/
theorem test_loads_16 :
    after start [0x31, 0xFE, 0xFF] (viewPair .sp) = some (0xFFFE, 0x00, 12) ∧
    after (start.setSp 0xFFF8) [0x08, 0x00, 0xC1] (fun t => (t.memRead 0xC100, t.memRead 0xC101, t.cycles)) =
      some (0xF8, 0xFF, 20) ∧
    after (start.setPair .hl 0xDFFF) [0xF9] (viewPair .sp) = some (0xDFFF, 0x00, 8) ∧
    after (start.setSp 0xFFF8) [0xF8, 0x02] (viewPair .hl) = some (0xFFFA, 0x00, 12) ∧
    after (start.setSp 0x0001) [0xF8, 0xFF] (viewPair .hl) = some (0x0000, 0x30, 12) ∧
    after (start.setSp 0x1000) [0xF8, 0x80] (viewPair .hl) = some (0x0F80, 0x00, 12) := by
  refine ⟨?_, ?_, ?_, ?_, ?_, ?_⟩ <;> decide +kernel

/-- V76 to V81 and V42: the stack, its wraps through IE and ROM included. -/
theorem test_stack :
    after ((start.setSp 0xFFFE).setPair .bc 0x1234) [0xC5] (fun t => (t.memRead 0xFFFD, t.memRead 0xFFFC, t.sp, t.cycles)) =
      some (0x12, 0x34, 0xFFFC, 16) ∧
    after ((start.setSp 0x0001).setPair .de 0xABCD) [0xD5] (fun t => (t.memRead 0x0000, t.ie, t.sp)) =
      some (0xAB, 0xCD, 0xFFFF) ∧
    after (store (start.setSp 0xFFFC) 0xFFFC [0x34, 0x12]) [0xD1] (fun t => (t.pair .de, t.sp, t.cycles)) =
      some (0x1234, 0xFFFE, 12) ∧
    after (store (start.setSp 0xFFFC) 0xFFFC [0xFF, 0x12]) [0xF1] (fun t => (t.regs.a, packFlags t.flags)) =
      some (0x12, 0xF0) ∧
    after ((withA 0x12 0xF0).setSp 0xFFFE) [0xF5] (fun t => (t.memRead 0xFFFD, t.memRead 0xFFFC)) = some (0x12, 0xF0) ∧
    after ((start.setSp 0x0000).setPair .bc 0x0102) [0xC5] (fun t => (t.ie, t.memRead 0xFFFE, t.sp)) =
      some (0x01, 0x02, 0xFFFE) ∧
    after (start.setSp 0xFFF8) [0x08, 0xFF, 0xFF] (fun t => (t.ie, t.memRead 0x0000)) = some (0xF8, 0xFF) := by
  refine ⟨?_, ?_, ?_, ?_, ?_, ?_, ?_⟩ <;> decide +kernel

/-- One row a vector: A, F, another register and its value, the bytes, A and F after (cycles 4 a byte). -/
abbrev AluRows (rows : List (Byte × Byte × Reg8 × Byte × List Byte × Byte × Byte)) : Prop :=
  ∀ r ∈ rows, after ((withA r.1 r.2.1).setReg r.2.2.1 r.2.2.2.1) r.2.2.2.2.1 viewA =
    some (r.2.2.2.2.2.1, r.2.2.2.2.2.2, 4 * r.2.2.2.2.1.length)

/-- V90 to V93, V95 to V97. -/
theorem test_add :
    AluRows
      [(0x3A, 0x00, .b, 0xC6, [0x80], 0x00, 0xB0), (0x01, 0x00, .b, 0, [0xC6, 0xFF], 0x00, 0xB0),
        (0x80, 0x00, .b, 0, [0x87], 0x00, 0x90), (0x0F, 0x00, .b, 0, [0xC6, 0x01], 0x10, 0x20),
        (0xE1, 0x10, .e, 0x0F, [0x8B], 0xF1, 0x20), (0xFF, 0x10, .b, 0, [0xCE, 0x00], 0x00, 0xB0),
        (0x0E, 0x10, .b, 0x01, [0x88], 0x10, 0x20)] := by
  decide +kernel

/-- V98 to V105, V111 to V113. -/
theorem test_subtract :
    AluRows
      [(0x3E, 0x00, .e, 0x3E, [0x93], 0x00, 0xC0), (0x00, 0x00, .b, 0, [0xD6, 0x01], 0xFF, 0x70),
        (0x00, 0x00, .b, 0, [0xD6, 0x10], 0xF0, 0x50), (0x3B, 0x10, .h, 0x2A, [0x9C], 0x10, 0x40),
        (0x00, 0x10, .b, 0, [0xDE, 0x00], 0xFF, 0x70), (0x10, 0x10, .b, 0, [0xDE, 0x0F], 0x00, 0xE0),
        (0x42, 0x10, .b, 0, [0x9F], 0xFF, 0x70), (0x42, 0x00, .b, 0, [0x9F], 0x00, 0xC0),
        (0x3C, 0x00, .b, 0, [0xFE, 0x2F], 0x3C, 0x60), (0x3C, 0x00, .b, 0, [0xFE, 0x3C], 0x3C, 0xC0),
        (0x3C, 0x00, .b, 0, [0xFE, 0x40], 0x3C, 0x50)] := by
  decide +kernel

/-- V106 to V110, V129 to V133. -/
theorem test_logic :
    AluRows
      [(0x5A, 0x00, .l, 0x3F, [0xA5], 0x1A, 0x20), (0xF0, 0x00, .b, 0, [0xE6, 0x0F], 0x00, 0xA0),
        (0x0F, 0x00, .b, 0, [0xEE, 0xFF], 0xF0, 0x00), (0x00, 0x70, .b, 0x00, [0xB0], 0x00, 0x80),
        (0x5A, 0x00, .b, 0, [0xF6, 0x0F], 0x5F, 0x00), (0x35, 0x00, .b, 0, [0x2F], 0xCA, 0x60),
        (0x00, 0x00, .b, 0, [0x2F], 0xFF, 0x60), (0x00, 0x70, .b, 0, [0x37], 0x00, 0x10),
        (0x00, 0x90, .b, 0, [0x3F], 0x00, 0x80), (0x00, 0x60, .b, 0, [0x3F], 0x00, 0x10)] := by
  decide +kernel

/-- V94 and V114: the byte at HL. -/
theorem test_alu_at_hl :
    after (store ((withA 0x12 0x00).setPair .hl 0xC100) 0xC100 [0x34]) [0x86] viewA = some (0x46, 0x00, 8) ∧
    after (store ((withA 0x3C 0x00).setPair .hl 0xC100) 0xC100 [0x40]) [0xBE] viewA = some (0x3C, 0x50, 8) := by
  refine ⟨?_, ?_⟩ <;> decide +kernel

/-- V124 to V128: DAA after the addition or subtraction whose A and F are given, and F after. -/
theorem test_daa :
    AluRows
      [(0x7D, 0x00, .b, 0, [0x27], 0x83, 0x00), (0x9A, 0x00, .b, 0, [0x27], 0x00, 0x90),
        (0x12, 0x20, .b, 0, [0x27], 0x18, 0x00), (0x1F, 0x60, .b, 0, [0x27], 0x19, 0x40)] := by
  decide +kernel

/-- V115 to V122. -/
theorem test_inc_dec :
    after ((withA 0x00 0x10).setReg .b 0x0F) [0x04] (viewReg .b) = some (0x10, 0x30, 4) ∧
    after (withA 0xFF 0x00) [0x3C] viewA = some (0x00, 0xA0, 4) ∧
    after ((withA 0x00 0x10).setReg .e 0x41) [0x1C] (viewReg .e) = some (0x42, 0x10, 4) ∧
    after (withA 0x10 0x00) [0x3D] viewA = some (0x0F, 0x60, 4) ∧
    after (withA 0x01 0x10) [0x3D] viewA = some (0x00, 0xD0, 4) ∧
    after start [0x05] (viewReg .b) = some (0xFF, 0x60, 4) ∧
    after (store ((withA 0x00 0x10).setPair .hl 0xC100) 0xC100 [0xFF]) [0x34] (viewMem 0xC100) = some (0x00, 0xB0, 12) ∧
    after (store (start.setPair .hl 0xC100) 0xC100 [0x01]) [0x35] (viewMem 0xC100) = some (0x00, 0xC0, 12) := by
  refine ⟨?_, ?_, ?_, ?_, ?_, ?_, ?_, ?_⟩ <;> decide +kernel

/-- V123 and V196: a read, change and write of DIV resets the divider. -/
theorem test_div_read_modify_write :
    after ((start.setPair .hl 0xFF04).setDiv 0x3456) [0x34] (fun t => (t.div, packFlags t.flags)) = some (0x000C, 0x00) ∧
    after ((start.setPair .hl 0xFF04).setDiv 0x5500) [0xCB, 0x86] (fun t => t.div) = some 0x0010 := by
  refine ⟨?_, ?_⟩ <;> decide +kernel

/-- V140 to V150. -/
theorem test_arithmetic_16 :
    after (((withA 0 0x80).setPair .hl 0x8A23).setPair .bc 0x0605) [0x09] (viewPair .hl) = some (0x9028, 0xA0, 8) ∧
    after (start.setPair .hl 0x8000) [0x29] (viewPair .hl) = some (0x0000, 0x10, 8) ∧
    after ((start.setPair .hl 0x0FFF).setPair .de 0x0001) [0x19] (viewPair .hl) = some (0x1000, 0x20, 8) ∧
    after ((start.setPair .hl 0xFFFF).setSp 0x0001) [0x39] (viewPair .hl) = some (0x0000, 0x30, 8) ∧
    after ((start.setPair .hl 0x00FF).setPair .bc 0x0001) [0x09] (viewPair .hl) = some (0x0100, 0x00, 8) ∧
    after (start.setSp 0x00FF) [0xE8, 0xFF] (viewPair .sp) = some (0x00FE, 0x30, 16) ∧
    after (start.setSp 0x0000) [0xE8, 0x80] (viewPair .sp) = some (0xFF80, 0x00, 16) ∧
    after ((withA 0 0xF0).setSp 0xFFFF) [0x33] (viewPair .sp) = some (0x0000, 0xF0, 8) ∧
    after start [0x0B] (viewPair .bc) = some (0xFFFF, 0x00, 8) := by
  refine ⟨?_, ?_, ?_, ?_, ?_, ?_, ?_, ?_, ?_⟩ <;> decide +kernel

/-- V160 to V166: the accumulator rotates never set Z. -/
theorem test_rotate_accumulator :
    AluRows
      [(0x85, 0x00, .b, 0, [0x07], 0x0B, 0x10), (0x00, 0x80, .b, 0, [0x07], 0x00, 0x00),
        (0x3B, 0x00, .b, 0, [0x0F], 0x9D, 0x10), (0x95, 0x10, .b, 0, [0x17], 0x2B, 0x10),
        (0x80, 0x00, .b, 0, [0x17], 0x00, 0x10), (0x81, 0x00, .b, 0, [0x1F], 0x40, 0x10),
        (0x01, 0x00, .b, 0, [0x1F], 0x00, 0x10)] := by
  decide +kernel

/-- V168, V172, V173, V177, V180, V183. -/
theorem test_rotate_shift_a :
    AluRows
      [(0x00, 0x00, .b, 0, [0xCB, 0x07], 0x00, 0x80), (0x80, 0x00, .b, 0, [0xCB, 0x17], 0x00, 0x90),
        (0x01, 0x00, .b, 0, [0xCB, 0x1F], 0x00, 0x90), (0x8A, 0x00, .b, 0, [0xCB, 0x2F], 0xC5, 0x00),
        (0xF0, 0x10, .b, 0, [0xCB, 0x37], 0x0F, 0x00), (0x01, 0x00, .b, 0, [0xCB, 0x3F], 0x00, 0x90)] := by
  decide +kernel

/-- V167, V169 to V171, V174 to V176, V178, V179, V182. -/
theorem test_rotate_shift_others :
    after (start.setReg .b 0x85) [0xCB, 0x00] (viewReg .b) = some (0x0B, 0x10, 8) ∧
    after (store (start.setPair .hl 0xC100) 0xC100 [0x80]) [0xCB, 0x06] (viewMem 0xC100) = some (0x01, 0x10, 16) ∧
    after (start.setReg .c 0x01) [0xCB, 0x09] (viewReg .c) = some (0x80, 0x10, 8) ∧
    after (start.setReg .l 0x80) [0xCB, 0x15] (viewReg .l) = some (0x00, 0x90, 8) ∧
    after (withA 0x00 0x10) [0xCB, 0x18] (viewReg .b) = some (0x80, 0x00, 8) ∧
    after (start.setReg .d 0x80) [0xCB, 0x22] (viewReg .d) = some (0x00, 0x90, 8) ∧
    after (start.setReg .e 0xFF) [0xCB, 0x23] (viewReg .e) = some (0xFE, 0x10, 8) ∧
    after (start.setReg .b 0x01) [0xCB, 0x28] (viewReg .b) = some (0x00, 0x90, 8) ∧
    after (start.setReg .b 0x80) [0xCB, 0x28] (viewReg .b) = some (0xC0, 0x00, 8) ∧
    after (store (start.setPair .hl 0xC100) 0xC100 [0xFF]) [0xCB, 0x3E] (viewMem 0xC100) = some (0x7F, 0x10, 16) := by
  refine ⟨?_, ?_, ?_, ?_, ?_, ?_, ?_, ?_, ?_, ?_⟩ <;> decide +kernel

/-- V190 to V195, V197 to V199. -/
theorem test_bits :
    after (withA 0x80 0x10) [0xCB, 0x7F] viewA = some (0x80, 0x30, 8) ∧
    after (withA 0x80 0x00) [0xCB, 0x47] viewA = some (0x80, 0xA0, 8) ∧
    after (store (start.setPair .hl 0xC100) 0xC100 [0xEF]) [0xCB, 0x66] (viewMem 0xC100) = some (0xEF, 0xA0, 12) ∧
    after (((start.setPair .hl 0xFF00).setJoypSel 0b10).setJoy { start.joy with right := true }) [0xCB, 0x46]
      (fun t => packFlags t.flags) = some 0xA0 ∧
    after ((withA 0 0xA0).setReg .b 0xFF) [0xCB, 0x80] (viewReg .b) = some (0xFE, 0xA0, 8) ∧
    after (store (start.setPair .hl 0xC100) 0xC100 [0xFF]) [0xCB, 0xBE] (viewMem 0xC100) = some (0x7F, 0x00, 16) ∧
    after (start.setPair .hl 0xC100) [0xCB, 0xFE] (viewMem 0xC100) = some (0x80, 0x00, 16) ∧
    after (start.setPair .hl 0xFF0F) [0xCB, 0xC6] (fun t => t.ifl) = some 0xE1 ∧
    after start [0xCB, 0xFF] viewA = some (0x80, 0x00, 8) := by
  refine ⟨?_, ?_, ?_, ?_, ?_, ?_, ?_, ?_, ?_⟩ <;> decide +kernel

/-- V200 to V202, V204, V206 to V211. -/
theorem test_jumps :
    after (start.setPc 0x0100) [0xC3, 0x50, 0x01] viewFlow = some (0x0150, 0, 16) ∧
    after ((withA 0 0x80).setPc 0x0200) [0xC2, 0x34, 0x12] viewFlow = some (0x0203, 0, 12) ∧
    after (start.setPc 0x0200) [0xC2, 0x34, 0x12] viewFlow = some (0x1234, 0, 16) ∧
    after (start.setPair .hl 0xD000) [0xE9] viewFlow = some (0xD000, 0, 4) ∧
    after (start.setPc 0x0100) [0x18, 0xFE] viewFlow = some (0x0100, 0, 12) ∧
    after (start.setPc 0x0100) [0x18, 0x80] viewFlow = some (0x0082, 0, 12) ∧
    after (start.setPc 0x0100) [0x18, 0x7F] viewFlow = some (0x0181, 0, 12) ∧
    after (start.setPc 0x0000) [0x18, 0xF0] viewFlow = some (0xFFF2, 0, 12) ∧
    after ((withA 0 0x10).setPc 0x0210) [0x38, 0xFC] viewFlow = some (0x020E, 0, 12) ∧
    after (start.setPc 0x0210) [0x38, 0xFC] viewFlow = some (0x0212, 0, 8) := by
  refine ⟨?_, ?_, ?_, ?_, ?_, ?_, ?_, ?_, ?_, ?_⟩ <;> decide +kernel

/-- V8, V214 to V221. -/
theorem test_calls_and_returns :
    after ((start.setPc 0x0150).setSp 0xFFFE) [0xCD, 0xCD, 0xAB]
      (fun t => (viewFlow t, t.memRead 0xFFFD, t.memRead 0xFFFC)) = some ((0xABCD, 0xFFFC, 24), 0x01, 0x53) ∧
    after (((withA 0 0x80).setPc 0x0300).setSp 0xD000) [0xCC, 0x00, 0x20]
      (fun t => (viewFlow t, t.memRead 0xCFFF, t.memRead 0xCFFE)) = some ((0x2000, 0xCFFE, 24), 0x03, 0x03) ∧
    after ((start.setPc 0x0300).setSp 0xD000) [0xCC, 0x00, 0x20] viewFlow = some (0x0303, 0xD000, 12) ∧
    after (store (start.setSp 0xFFFC) 0xFFFC [0x53, 0x01]) [0xC9] viewFlow = some (0x0153, 0xFFFE, 16) ∧
    after (store (start.setSp 0xFFFC) 0xFFFC [0x53, 0x01]) [0xD0] viewFlow = some (0x0153, 0xFFFE, 20) ∧
    after (((withA 0 0x10).setPc 0x0400).setSp 0xFFFC) [0xD0] viewFlow = some (0x0401, 0xFFFC, 8) ∧
    after (store (start.setSp 0xFFFC) 0xFFFC [0x53, 0x01]) [0xD9] (fun t => (viewFlow t, t.ime)) =
      some ((0x0153, 0xFFFE, 16), true) ∧
    after ((start.setPc 0x0200).setSp 0xFFFE) [0xEF] (fun t => (viewFlow t, t.memRead 0xFFFD, t.memRead 0xFFFC)) =
      some ((0x0028, 0xFFFC, 16), 0x02, 0x01) := by
  refine ⟨?_, ?_, ?_, ?_, ?_, ?_, ?_, ?_⟩ <;> decide +kernel

/-- V223: the eight RST targets. -/
theorem test_rst_targets :
    after start [0xC7] (fun t => t.pc) = some 0x0000 ∧ after start [0xCF] (fun t => t.pc) = some 0x0008 ∧
    after start [0xD7] (fun t => t.pc) = some 0x0010 ∧ after start [0xDF] (fun t => t.pc) = some 0x0018 ∧
    after start [0xE7] (fun t => t.pc) = some 0x0020 ∧ after start [0xEF] (fun t => t.pc) = some 0x0028 ∧
    after start [0xF7] (fun t => t.pc) = some 0x0030 ∧ after start [0xFF] (fun t => t.pc) = some 0x0038 := by
  refine ⟨?_, ?_, ?_, ?_, ?_, ?_, ?_, ?_⟩ <;> decide +kernel

/-- V230, V231, V238, V240 and V241's first step. -/
theorem test_system :
    after (start.setPc 0x0100) [0x00] viewFlow = some (0x0101, 0, 4) ∧
    after (((start.setPc 0x0200).setIme true).setIe 0x04) [0x76] (fun t => (t.halted, viewFlow t)) =
      some (true, 0x0201, 0, 4) ∧
    after ({ start with params := { start.params with stopMode := .nop2 } }.setPc 0x0100) [0x10, 0x00] viewFlow =
      some (0x0102, 0, 4) ∧
    after (start.setIme true) [0xF3] (fun t => (t.ime, t.cycles)) = some (false, 4) ∧
    after start [0xFB] (fun t => (t.ime, t.cycles)) = some (true, 4) := by
  refine ⟨?_, ?_, ?_, ?_, ?_⟩ <;> decide +kernel

/-- What a step's fatal error says, without the state it leaves. -/
def fatal (s : State) (bytes : List Byte) : Option (Bool × Byte × Word) :=
  match step (store s s.pc bytes) with
  | .fault (.opcodeNotFound _ op addr _) => some (true, op, addr)
  | .fault (.stopUnsupported addr _) => some (false, 0, addr)
  | .fault .alreadyFaulted => none
  | .next _ => none
  | .refused _ => none

/-- PC, cycles, the divider and `faulted` in the state a fatal error leaves. -/
def fatalLeft (s : State) (bytes : List Byte) : Option (Word × Nat × Word × Bool) :=
  match step (store s s.pc bytes) with
  | .fault (.opcodeNotFound _ _ _ t) => some (t.pc, t.cycles, t.div, t.faulted)
  | .fault (.stopUnsupported _ t) => some (t.pc, t.cycles, t.div, t.faulted)
  | .fault .alreadyFaulted => none
  | .next _ => none
  | .refused _ => none

/-- V14 and V239. -/
theorem test_fatal_errors :
    fatal start [0xD3] = some (true, 0xD3, 0xC000) ∧ fatalLeft start [0xD3] = some (0xC000, 0, 0, true) ∧
    fatal (start.setPc 0x0100) [0x10, 0x00] = some (false, 0, 0x0100) ∧
    fatalLeft (start.setPc 0x0100) [0x10, 0x00] = some (0x0102, 4, 4, true) := by
  refine ⟨?_, ?_, ?_, ?_⟩ <;> decide +kernel

/-- No Step follows a fatal error (60_exceptions.md R405). -/
theorem test_faulted_is_stuck : step (start.setFaulted true) = .fault .alreadyFaulted := rfl

/-- V16: every invalid slot. -/
theorem test_invalid_slots :
    ∀ op ∈ ([0xD3, 0xDB, 0xDD, 0xE3, 0xE4, 0xEB, 0xEC, 0xED, 0xF4, 0xFC, 0xFD] : List Byte),
      fatal start [op] = some (true, op, 0xC000) := by
  decide +kernel

/-- V11, V12 and V242: the fetch wraps at the top of the address space, and reads IE. -/
theorem test_fetch :
    after (withA 0x12 0x00) [0xCB, 0x37] (fun t => (t.regs.a, t.pc, t.cycles)) = some (0x21, 0xC002, 8) ∧
    after ((start.setPc 0xFFFE).setIe 0x07) [0x3E] (fun t => (t.regs.a, t.pc, t.cycles)) = some (0x07, 0x0000, 8) ∧
    after (((withA 0x12 0x00).setPc 0xFFFF).setRom [(0, 0x37)]) [0xCB] (fun t => (t.regs.a, t.pc, t.cycles)) =
      some (0x21, 0x0001, 8) := by
  refine ⟨?_, ?_, ?_⟩ <;> decide +kernel

/-- 0xCB run as an instruction of its own, PC past it: SWAP A by the byte at PC (47_system.md R345). -/
theorem test_prefix :
    ∃ t, exec .prefixCb (store (withA 0x12 0x00) 0xC000 [0x37]) = .next t ∧ t.regs.a = 0x21 ∧ t.pc = 0xC001 ∧ t.cycles = 8 :=
  ⟨_, rfl, by decide +kernel⟩

/-! ## The memory map -/

/-- What a read gives after a store. -/
def readBack (s : State) (a : Word) (v : Byte) (x : Word) : Byte := (s.memWrite a v).memRead x

/-- V20 to V25: the boot ROM overlay and its latch. -/
theorem test_boot_overlay :
    let s := ((start.setBootOff false).setBoot [(0, 0x31)]).setRom [(0, 0xC3)]
    s.memRead 0x0000 = 0x31 ∧ readBack s 0x0000 0xAA 0x0000 = 0x31 ∧ (s.memWrite 0x0000 0xAA).rom.read 0 = 0xAA ∧
    ((s.memWrite 0x0000 0xAA).memWrite 0xFF50 0x01).memRead 0x0000 = 0xAA ∧ readBack s 0xFF50 0x01 0xFF50 = 0xFF ∧
    (start.memWrite 0xFF50 0x00).bootOff = true ∧ readBack s 0xFF50 0x00 0xFF50 = 0xFE ∧ s.memRead 0x0100 = 0x00 := by
  intro s
  refine ⟨?_, ?_, ?_, ?_, ?_, ?_, ?_, ?_⟩ <;> decide +kernel

/-- V26 to V32, V39, V40. -/
theorem test_memory_map :
    readBack start 0xD005 0x44 0xF005 = 0x44 ∧ readBack start 0xE123 0x55 0xC123 = 0x55 ∧
    readBack start 0xFEA0 0x12 0xFEA0 = 0xFF ∧ readBack start 0xFE9F 0x9C 0xFE9F = 0x9C ∧
    readBack start 0xFF0F 0x00 0xFF0F = 0xE0 ∧ readBack start 0xFF07 0x3F 0xFF07 = 0xFF ∧
    readBack start 0xFFFF 0x1F 0xFFFF = 0x1F ∧
    readBack { start with params := { start.params with ieReadOr := .topThreeBits } } 0xFFFF 0x1F 0xFFFF = 0xFF ∧
    readBack start 0xFF02 0x81 0xFF02 = 0x81 ∧ readBack start 0xFF26 0x77 0xFF26 = 0x77 := by
  refine ⟨?_, ?_, ?_, ?_, ?_, ?_, ?_, ?_, ?_, ?_⟩ <;> decide +kernel

/-- V33 to V36: JOYP with Right and A pressed. -/
theorem test_joyp :
    let s := start.setJoy { start.joy with right := true, a := true }
    readBack s 0xFF00 0x20 0xFF00 = 0xEE ∧ readBack s 0xFF00 0x10 0xFF00 = 0xDE ∧ readBack s 0xFF00 0x00 0xFF00 = 0xCE ∧
    readBack s 0xFF00 0x30 0xFF00 = 0xFF := by
  intro s
  refine ⟨?_, ?_, ?_, ?_⟩ <;> decide +kernel

/-- V37 and V38: the serial capture. -/
theorem test_serial :
    let s : State := { start with params := { start.params with serialCapture := true } }
    ((s.memWrite 0xFF01 0x4F).memWrite 0xFF01 0x4B).serialOut = [0x4F, 0x4B] ∧
    ((s.memWrite 0xFF01 0x4F).memWrite 0xFF01 0x4B).memRead 0xFF01 = 0x4B ∧
    (start.memWrite 0xFF01 0x4F).serialOut = [] ∧ (start.memWrite 0xFF01 0x4F).io.read 0x01 = 0x4F := by
  intro s
  refine ⟨?_, ?_, ?_, ?_⟩ <;> decide +kernel

/-- A store of the byte an unlisted address reads as removes its cell, so that equal memories are equal data. -/
theorem test_memory_canonical :
    ((start.memWrite 0xC005 0x12).memWrite 0xC005 0x00).wram = [] ∧
    (start.memWrite 0xC005 0x12).memWrite 0xC001 0x34 = (start.memWrite 0xC001 0x34).memWrite 0xC005 0x12 := by
  refine ⟨?_, ?_⟩ <;> decide +kernel

/-! ## Interrupts, the joypad, V-Blank and the timer -/

/-- What a step in the state alone shows of an interrupt: PC, IF, IME, Halted, SP, cycles. -/
def viewInt (t : State) : Word × Byte × Bool × Bool × Word × Nat := (t.pc, t.ifl, t.ime, t.halted, t.sp, t.cycles)

def intState (ime halted : Bool) (ie ifl : Byte) : State :=
  (((((start.setPc 0x0200).setSp 0xFFFE).setIme ime).setHalted halted).setIe ie).setIf ifl

/-- V7, V252, V253: priority; V250, V251: no service. -/
theorem test_interrupt_service :
    after (intState true false 0x15 0xF5) [] viewInt = some (0x0050, 0xF1, false, false, 0xFFFC, 20) ∧
    after (intState true false 0x15 0xF5) [] (fun t => (t.memRead 0xFFFD, t.memRead 0xFFFC)) = some (0x02, 0x00) ∧
    after (intState true false 0x01 0xE5) [] viewInt = some (0x0040, 0xE4, false, false, 0xFFFC, 20) ∧
    after (intState true false 0x11 0xF1) [] viewInt = some (0x0040, 0xF0, false, false, 0xFFFC, 20) ∧
    after (intState false false 0x1F 0xFF) [] viewInt = some (0x0201, 0xFF, false, false, 0xFFFE, 4) ∧
    after (intState true false 0x02 0xE2) [] viewInt = some (0x0201, 0xE2, true, false, 0xFFFE, 4) := by
  refine ⟨?_, ?_, ?_, ?_, ?_, ?_⟩ <;> decide +kernel

/-- V232 to V236: a halted CPU. -/
theorem test_halted :
    after (intState true true 0x04 0xE0) [] viewInt = some (0x0200, 0xE0, true, true, 0xFFFE, 4) ∧
    after (intState true true 0x04 0xE4) [] viewInt = some (0x0050, 0xE0, false, false, 0xFFFC, 20) ∧
    after (intState false true 0x04 0xE4) [] viewInt = some (0x0201, 0xE4, false, false, 0xFFFE, 4) ∧
    after { intState false true 0x04 0xE4 with params := { start.params with haltWake := .dispatchNoAck } } [] viewInt =
      some (0x0050, 0xE4, false, false, 0xFFFC, 20) ∧
    after (intState true true 0x0A 0xEA) [] viewInt = some (0x0200, 0xEA, true, true, 0xFFFE, 4) := by
  refine ⟨?_, ?_, ?_, ?_, ?_⟩ <;> decide +kernel

/-- V254 and V255: the V-Blank pulse; V261: service through ROM. -/
theorem test_vblank :
    after { intState false false 0x01 0xE0 with ppu := { idle := true, vblank := true, rest := 7 } } []
      (fun t => (t.ifl, t.ppu, t.pc)) = some (0xE1, { idle := true, vblank := false, rest := 7 }, 0x0201) ∧
    after { intState true false 0x01 0xE0 with ppu := { idle := true, vblank := true, rest := 7 } } [] viewInt =
      some (0x0040, 0xE0, false, false, 0xFFFC, 20) ∧
    after ((intState true false 0x01 0xE1).setSp 0x0002) [] (fun t => (t.memRead 0x0001, t.memRead 0x0000, t.sp)) =
      some (0x02, 0x00, 0x0000) := by
  refine ⟨?_, ?_, ?_⟩ <;> decide +kernel

/-- V256 to V260: the joypad snapshot. -/
def joyState (ie : Byte) (sel : BitVec 2) (old snap : Joypad) (ime : Bool) : State :=
  ((((intState ime false ie 0xE0).setJoypSel sel).setJoy old).setJoyInput [some snap, none])

theorem test_joypad_sample :
    let off := start.joy
    after (joyState 0x10 0b01 off { off with a := true } false) [] (fun t => (t.joy.a, t.ifl, t.joyInput)) =
      some (true, 0xF0, [none]) ∧
    after (joyState 0x00 0b01 off { off with a := true } false) [] (fun t => (t.joy.a, t.ifl)) = some (true, 0xE0) ∧
    after (joyState 0x10 0b10 off { off with a := true } false) [] (fun t => (t.joy.a, t.ifl)) = some (true, 0xE0) ∧
    after (joyState 0x10 0b01 { off with a := true } off false) [] (fun t => (t.joy.a, t.ifl)) = some (false, 0xE0) ∧
    after (joyState 0x10 0b00 off { off with down := true } true) [] (fun t => (t.pc, t.ifl)) = some (0x0060, 0xE0) := by
  intro off
  refine ⟨?_, ?_, ?_, ?_, ?_⟩ <;> decide +kernel

/-- One row a vector: TAC, the divider, delta, TIMA, TMA, and the divider, TIMA and IF after (V270 to V284). -/
theorem test_timer :
    ∀ r ∈ ([(0xF8, 0x00FC, 8, 0x10, 0, 0x0104, 0x10, 0xE0), (0xFD, 0x000C, 4, 0x10, 0, 0x0010, 0x11, 0xE0),
          (0xFD, 0x0008, 4, 0x10, 0, 0x000C, 0x10, 0xE0), (0xFD, 0x0000, 16, 0x10, 0, 0x0010, 0x10, 0xE0),
          (0xFD, 0x000C, 20, 0x10, 0, 0x0020, 0x11, 0xE0), (0xFC, 0x03FC, 4, 0x10, 0, 0x0400, 0x11, 0xE0),
          (0xFC, 0x03F8, 4, 0x10, 0, 0x03FC, 0x10, 0xE0), (0xFE, 0x003C, 8, 0x10, 0, 0x0044, 0x11, 0xE0),
          (0xFF, 0x00F8, 8, 0x10, 0, 0x0100, 0x11, 0xE0), (0xFF, 0x00F0, 8, 0x10, 0, 0x00F8, 0x10, 0xE0),
          (0xFD, 0x000C, 4, 0xFF, 0x80, 0x0010, 0x80, 0xE4), (0xFD, 0x000C, 4, 0xFF, 0xFF, 0x0010, 0xFF, 0xE4),
          (0xFD, 0x000C, 4, 0xFF, 0x00, 0x0010, 0x00, 0xE4), (0xFD, 0xFFFC, 4, 0x10, 0, 0x0000, 0x11, 0xE0),
          (0xFD, 0x000C, 0, 0x10, 0, 0x000C, 0x10, 0xE0)] :
        List (Byte × Word × Nat × Byte × Byte × Word × Byte × Byte)),
      let t := (((((start.setTac r.1).setDiv r.2.1).setCycles r.2.2.1).setTima r.2.2.2.1).setTma r.2.2.2.2.1).timerUpdate
      (t.div, t.tima, t.ifl, t.lastTimerUpdate) = (r.2.2.2.2.2.1, r.2.2.2.2.2.2.1, r.2.2.2.2.2.2.2, r.2.2.1) := by
  decide +kernel

/-- V4 and the whole-Step form under the timer's vectors: the register write, then the update. -/
theorem test_timer_in_a_step :
    after ((withA 0x5A 0).setDiv 0x1234) [0xE0, 0x04] (fun t => (t.div, t.memRead 0xFF04)) = some (0x000C, 0x00) ∧
    after ((((withA 0xFF 0).setDiv 0x000C).setTac 0xFD).setTma 0x33) [0xE0, 0x05] (fun t => (t.tima, t.ifl, t.div)) =
      some (0x33, 0xE4, 0x0018) := by
  refine ⟨?_, ?_⟩ <;> decide +kernel

/-! ## Construction and loading -/

/-- V290, V291, V297, V298. -/
theorem test_construction :
    State.reset.ifl = 0xE0 ∧ State.reset.tac = 0xF8 ∧ State.reset.bootOff = false ∧ State.reset.pc = 0x0000 ∧
    State.reset.simulateBoot.saveRegisters =
      [0x01, 0xB0, 0x00, 0x13, 0x00, 0xD8, 0x01, 0x4D, 0x01, 0x00, 0xFF, 0xFE] ∧
    (start.restoreRegisters [0x12, 0xFF, 0, 0, 0, 0, 0, 0, 0xC0, 0x00, 0xDF, 0xFF]).saveRegisters =
      [0x12, 0xF0, 0, 0, 0, 0, 0, 0, 0xC0, 0x00, 0xDF, 0xFF] := by
  refine ⟨?_, ?_, ?_, ?_, ?_, ?_⟩ <;> decide +kernel

/-- V292 and V293: the boot ROM's size. -/
theorem test_load_boot_rom :
    start.loadBootRom (List.replicate 255 0x01) = .error .bootRomSize ∧
    (start.loadBootRom (List.replicate 256 0x01)).toOption = some (start.setBoot (Memory.ofBytes 0 (List.replicate 256 0x01))) := by
  have h : (List.replicate 255 (0x01 : Byte)).length ≠ 256 := by rw [List.length_replicate]; decide
  exact ⟨if_neg h, congrArg Except.toOption (if_pos List.length_replicate)⟩

/-- An image is copied over the first offsets of the ROM buffer (V295, on a short image). -/
theorem test_load_rom :
    (start.setRom [(1, 0x77), (5, 0x66)]).loadRom [0x31, 0x00, 0xC3] = .ok (start.setRom [(0, 0x31), (2, 0xC3), (5, 0x66)]) :=
  rfl

/-- The host's placed instruction runs as the next step, from reset's PC and from one where no byte can be placed. -/
theorem test_placed_instruction :
    (match step ((start.setPc 0x0000).withFetchWord 16 0xCB37) with | .next t => some (t.pc, t.cycles) | _ => none) =
      some (0x0002, 8) ∧
    (match step ((start.setPc 0xFF10).withFetchWord 8 0x3E) with | .next t => some (t.pc, t.cycles) | _ => none) =
      some (0xC002, 8) := by
  refine ⟨?_, ?_⟩ <;> decide +kernel

/-! ## Every obligation's hypotheses are met -/

theorem test_meets_DecodeOfEncode :
    (Instr.ldBcD16 0xFFFF).wf = true ∧ (Instr.invalid 0xFD).wf = true ∧ Instr.set7A.wf = true := by
  decide

theorem test_meets_EncodeOfDecode :
    (decode [0x10, 0x55, 0x01]).toOption = some (.stop, [0x01]) ∧
    (decode [0xFE, 0xFF, 0x00]).toOption = some (.cpD8 0xFF, [0x00]) ∧ 3 ≤ [(0xFD : Byte), 0x00, 0x00].length := by
  refine ⟨?_, ?_, ?_⟩ <;> decide

theorem test_meets_InvalidSlotsExactly :
    (primarySlot 0x00).cycles ≠ 0 ∧ (primarySlot 0xFF).cycles ≠ 0 := by
  refine ⟨?_, ?_⟩ <;> decide

theorem test_meets_StepRunsDecodedInstruction :
    start.faulted = false ∧ start.beginStep.interruptCheck = none ∧ start.beginStep.halted = false ∧
    (decode start.beginStep.fetchBytes).toOption = some (.nop, [0x00, 0x00]) ∧
    (decode (start.memWrite 0xC000 0xED).beginStep.fetchBytes).toOption = some (.invalid 0xED, [0x00, 0x00]) := by
  refine ⟨?_, ?_, ?_, ?_, ?_⟩ <;> decide +kernel

theorem test_meets_StepRunsDecodedInstruction_outcomes (s : State) :
    (∃ t, exec .nop s = .next t) ∧ (∃ e, exec (.invalid 0xED) s = .fault e) :=
  ⟨⟨_, rfl⟩, ⟨_, rfl⟩⟩

theorem test_meets_InterruptCheckOrder :
    (start.ime = false ∧ start.halted = false) ∧ (intState true false 0x15 0xF5).ime = true ∧
    (intState false true 0x15 0xF5).halted = true := by
  refine ⟨?_, ?_, ?_⟩ <;> decide

theorem test_meets_InterruptServiced :
    (intState true false 0x1F 0xE1).beginStep.interruptCheck = some .vblank ∧
    (intState true false 0x1F 0xEF).beginStep.interruptCheck = some .timer ∧
    (intState true false 0x1F 0xFA).beginStep.interruptCheck = some .joypad ∧
    (intState true false 0x1F 0xFA).beginStep.ime = true ∧ (intState true false 0x1F 0xFA).faulted = false := by
  refine ⟨?_, ?_, ?_, ?_, ?_⟩ <;> decide +kernel

theorem test_meets_HaltedSteps :
    (intState true true 0x0A 0xEA).beginStep.halted = true ∧
    (intState true true 0x0A 0xEA).beginStep.interruptCheck = none ∧
    (intState false true 0x04 0xE4).beginStep.interruptCheck = some .timer ∧
    (intState false true 0x04 0xE4).beginStep.ime = false ∧ (intState false true 0x04 0xE4).params.haltWake = .resume ∧
    { intState false true 0x01 0xE1 with params := { start.params with haltWake := .dispatchNoAck } }.beginStep.interruptCheck =
      some .vblank ∧
    { intState false true 0x10 0xF0 with params := { start.params with haltWake := .dispatchNoAck } }.beginStep.interruptCheck =
      some .joypad := by
  refine ⟨?_, ?_, ?_, ?_, ?_, ?_, ?_⟩ <;> decide +kernel

theorem test_meets_FatalErrorEndsRun :
    (start.memWrite 0xC000 0xD3).beginStep.memRead (start.memWrite 0xC000 0xD3).beginStep.pc = 0xD3 ∧
    invalidSlots.contains 0xD3 = true ∧ (start.memWrite 0xC000 0xD3).beginStep.interruptCheck = none ∧
    (start.memWrite 0xC000 0xD3).beginStep.halted = false ∧ (start.setFaulted true).faulted = true := by
  refine ⟨?_, ?_, ?_, ?_, ?_⟩ <;> decide +kernel

theorem test_meets_TimerUpdateRule :
    start.cycles ≤ start.lastTimerUpdate ∧ (start.setCycles 1).lastTimerUpdate < (start.setCycles 1).cycles := by
  refine ⟨?_, ?_⟩ <;> decide

theorem test_meets_SampleAndLatch :
    start.joyInput = [] ∧ (start.setJoyInput [none]).joyInput = none :: [] ∧
    (start.setJoyInput [some start.joy]).joyInput = some start.joy :: [] :=
  ⟨rfl, rfl, rfl⟩

theorem test_meets_StepAdvancesPpu :
    (match coreStep start with | .next _ => true | _ => false) = true ∧
    (⟨false, false, 0⟩ : PpuState).idle = false ∧ start.ppu.idle = true := by
  refine ⟨?_, ?_, ?_⟩ <;> decide +kernel

theorem test_meets_arrays : ArraysWf start := reset_arrays.congr rfl rfl rfl rfl rfl rfl rfl

/-- Plain storage at the ends of each of its regions; ROM below 0x0100 is storage when the overlay is off. -/
theorem test_meets_StorageReadsBack :
    ([0x0000, 0x00FF, 0x0100, 0x7FFF, 0xA000, 0xBFFF, 0xC000, 0xDFFF, 0xE000, 0xFDFF, 0xFE00, 0xFE9F, 0xFF01, 0xFF02, 0xFF03,
        0xFF3F, 0xFF4C, 0xFF7F, 0xFF80, 0xFFFE] : List Word).all start.isStorage = true := by
  decide +kernel

/-- And what is no plain storage: under the overlay, VRAM, the unusable region, the registers, IE. -/
theorem test_not_storage :
    (start.setBootOff false).isStorage 0x00FF = false ∧
    ([0x8000, 0x9FFF, 0xFEA0, 0xFEFF, 0xFF00, 0xFF04, 0xFF07, 0xFF0F, 0xFF40, 0xFF4B, 0xFF50, 0xFFFF] : List Word).any
      start.isStorage = false := by
  refine ⟨?_, ?_⟩ <;> decide +kernel

/-- The reads a store leaves alone exist for each kind of store (Untouched, in StoreReachesOnly and the frames). -/
theorem test_meets_StoreReachesOnly :
    storeReaches 0xC100 0xC101 = false ∧ storeReaches 0xC100 0xE101 = false ∧ storeReaches 0x8000 0x7FFF = false ∧
    storeReaches 0xFF40 0xFF4C = false ∧ storeReaches 0xFF50 0x0100 = false ∧ storeReaches 0xFF04 0xFF05 = false ∧
    storeReaches 0xC100 0xE100 = true ∧ storeReaches 0xFF50 0x00FF = true := by
  refine ⟨?_, ?_, ?_, ?_, ?_, ?_, ?_, ?_⟩ <;> decide

/-- The ROM and I/O bytes a frame keeps, seen or not, exist at the ends of their ranges (Untouched). -/
theorem test_meets_StoreReachesOnly_hidden :
    ([0x0001] : List Word).all (fun a => a.toNat != 0x00FF) = true ∧ ([] : List Word).all (fun a => a.toNat != 0) = true ∧
    ([0xFF01] : List Word).all (fun a => a.toNat != 0xFF7F) = true ∧ ∃ i : Nat, i < 8388608 ∧ 0x8000 ≤ i :=
  ⟨by decide, by decide, by decide, 0x8000, by omega, Nat.le_refl _⟩

theorem test_meets_EchoAndUnusable :
    ∀ p ∈ ([(0xE000, 0xE000, 0xFE00), (0xFDFF, 0xE000, 0xFE00), (0xFEA0, 0xFEA0, 0xFF00), (0xFEFF, 0xFEA0, 0xFF00)] :
        List (Word × Nat × Nat)),
      p.2.1 ≤ p.1.toNat ∧ p.1.toNat < p.2.2 := by
  decide

theorem test_meets_BootOverlay :
    (0x00FF : Word).toNat < 0x0100 ∧ State.reset.bootOff = false ∧ start.bootOff = true ∧
    (match step start with | .next _ => true | _ => false) = true := by
  refine ⟨?_, ?_, ?_, ?_⟩ <;> decide +kernel

theorem test_meets_DecimalAdjust : (withA 0x9A 0x00).flags.n = false ∧ (withA 0x1F 0x60).flags.n = true := by
  decide

/-- Each condition holds in one state and fails in another (ConditionalJumps, ConditionalCallsAndReturns). -/
theorem test_meets_conditions :
    Taken .nz start ∧ ¬Taken .nz (withA 0 0x80) ∧ Taken .z (withA 0 0x80) ∧ ¬Taken .z start ∧ Taken .nc start ∧
    ¬Taken .nc (withA 0 0x10) ∧ Taken .c (withA 0 0x10) ∧ ¬Taken .c start := by
  refine ⟨?_, ?_, ?_, ?_, ?_, ?_, ?_, ?_⟩ <;> simp only [Taken] <;> decide

/-- A stack across two regions, and at the top of high RAM. -/
theorem test_meets_CallThenReturn :
    start.isStorage ((start.setSp 0xC001).sp - 1) = true ∧ start.isStorage ((start.setSp 0xC001).sp - 2) = true ∧
    start.isStorage ((start.setSp 0xFFFF).sp - 1) = true ∧ start.isStorage ((start.setSp 0xFFFF).sp - 2) = true := by
  refine ⟨?_, ?_, ?_, ?_⟩ <;> decide +kernel

theorem test_meets_StopByMode :
    ({ start.params with stopMode := .nop2 } : Params).stopMode = .nop2 ∧ start.params.stopMode = .fault := by
  decide

/-- The premise of each frame: its instructions complete from every state; one of each group here, the rest alike. -/
theorem test_meets_frames (s : State) :
    (∃ t, exec .ldBC s = .next t) ∧ (∃ t, exec .ldIndHlIncA s = .next t) ∧ (∃ t, exec .adcAIndHl s = .next t) ∧
    (∃ t, exec .incIndHl s = .next t) ∧ (∃ t, exec (.addSpR8 0x80) s = .next t) ∧ (∃ t, exec .rlcIndHl s = .next t) ∧
    (∃ t, exec .bit0A s = .next t) ∧ (∃ t, exec .set7IndHl s = .next t) ∧ (∃ t, exec .pushAf s = .next t) ∧
    (∃ t, exec .popAf s = .next t) ∧ (∃ t, exec (.ldIndA16Sp 0xFFFF) s = .next t) ∧ (∃ t, exec (.callA16 0x1234) s = .next t) ∧
    (∃ t, exec .reti s = .next t) ∧ (∃ t, exec .halt s = .next t) ∧ (∃ t, exec .ei s = .next t) :=
  ⟨⟨_, rfl⟩, ⟨_, rfl⟩, ⟨_, rfl⟩, ⟨_, rfl⟩, ⟨_, rfl⟩, ⟨_, rfl⟩, ⟨_, rfl⟩, ⟨_, rfl⟩, ⟨_, rfl⟩, ⟨_, rfl⟩, ⟨_, rfl⟩,
    ⟨_, rfl⟩, ⟨_, rfl⟩, ⟨_, rfl⟩, ⟨_, rfl⟩⟩

/-- The registers and addresses a frame speaks of exist: each footprint leaves one out. -/
theorem test_meets_frames_inside :
    Reg8.b ∉ (dataFootprint [.a] noFlags).regs ∧ (dataFootprint [.a] allFlags).sp = false ∧
    (dataFootprint [.a] allFlags).flow = false ∧ (dataFootprint [.a] allFlags).control = false ∧
    (pushStores (start.setSp 0xD000)).contains 0xFFFF = false ∧ (pushStores (start.setSp 0xD000)).contains 0xFF50 = false ∧
    (pushStores (start.setSp 0xD000)).any inPpuWindow = false := by
  refine ⟨?_, ?_, ?_, ?_, ?_, ?_, ?_⟩ <;> decide +kernel

theorem test_meets_StepKeepsInvariant :
    start.Inv ∧ (match step start with | .next _ => true | _ => false) = true := by
  refine ⟨⟨test_meets_arrays, ?_, ?_, ?_, ?_⟩, ?_⟩ <;> decide +kernel

/-- EI changes IME and HALT changes Halted (ControlBitsWrittenOnlyBy). -/
theorem test_meets_ControlBitsWrittenOnlyBy :
    (∃ t, exec .ei start = .next t ∧ t.ime ≠ start.ime) ∧ (∃ t, exec .halt start = .next t ∧ t.halted ≠ start.halted) :=
  ⟨⟨_, rfl, by decide⟩, ⟨_, rfl, by decide⟩⟩

/-- StepCharges and SerialGrowsAndInputsAdvance: a step that completes, the timer caught up and the capture off. -/
theorem test_meets_step_laws :
    (match coreStep start with | .next _ => true | _ => false) = true ∧ start.lastTimerUpdate ≤ start.cycles ∧
    start.params.serialCapture = false := by
  refine ⟨?_, ?_, ?_⟩ <;> decide +kernel

theorem test_meets_ResetAndSimulatedBoot :
    State.reset.isStorage 0x0100 = true ∧ State.reset.isStorage 0xFFFE = true ∧ (0x0000 : Word).toNat < 0x0100 := by
  refine ⟨?_, ?_, ?_⟩ <;> decide +kernel

theorem test_meets_LoadingAndSaving :
    (List.replicate 256 (0x01 : Byte)).length = 256 ∧ (List.replicate 255 (0x01 : Byte)).length ≠ 256 ∧
    ([0x31] : List Byte).length ≤ 8388608 ∧ ([0x31] : List Byte)[0x0143]? ≠ some 0xC0 ∧
    (List.replicate 0x0143 (0x01 : Byte) ++ [0xC0])[0x0143]? = some 0xC0 ∧ (0x00FF : Word).toNat < 256 := by
  refine ⟨List.length_replicate, ?_, by decide, by decide, ?_, by decide⟩
  · rw [List.length_replicate]; decide
  · rw [List.getElem?_append_right (by rw [List.length_replicate]), List.length_replicate]; rfl

theorem test_meets_LoadingAndSaving_too_long : ∃ bytes : List Byte, 8388608 < bytes.length := by
  have key : ∀ n, 8388608 < n → ∃ bytes : List Byte, 8388608 < bytes.length := fun n h =>
    ⟨List.replicate n 0x00, by rw [List.length_replicate]; exact h⟩
  exact key 8388609 (by decide)

end Sys2Proof.Tests
end

section
/-! The flags byte (10_state.md R24, R25): what each bit of a packed byte is, and the two conversions against each other. -/

namespace Sys2Proof.Machine

theorem getLsbD_bit8 (b : Bool) (i : Nat) : (bit8 b).getLsbD i = (decide (i = 0) && b) := by
  cases b
  · simp [bit8]
  · simp [bit8, BitVec.getLsbD_one]

theorem getLsbD_bit8_shiftLeft (b : Bool) {k : Nat} (hk : k < 8) (i : Nat) :
    (bit8 b <<< k).getLsbD i = (decide (i = k) && b) := by
  have inRange : (i < 8 ∧ ¬ i < k) ∧ i - k = 0 ↔ i = k := by omega
  simp only [BitVec.getLsbD_shiftLeft, getLsbD_bit8, ← Bool.and_assoc, ← decide_not, ← Bool.decide_and, inRange]

/-- Every bit of the flags byte: the four flags at bits 7 to 4, zero at every other position (10_state.md R24). -/
theorem getLsbD_packFlags (f : Flags) (i : Nat) :
    (packFlags f).getLsbD i =
      (decide (i = 7) && f.z || decide (i = 6) && f.n || decide (i = 5) && f.h || decide (i = 4) && f.c) := by
  simp only [packFlags, BitVec.getLsbD_or, getLsbD_bit8_shiftLeft, Nat.reduceLT]

@[simp] theorem unpackFlags_packFlags (f : Flags) : unpackFlags (packFlags f) = f := by
  simp only [unpackFlags, getLsbD_packFlags]
  simp

@[simp] theorem packFlags_unpackFlags (b : Byte) : packFlags (unpackFlags b) = b &&& 0xF0 := by
  apply BitVec.eq_of_getLsbD_eq
  intro i hi
  rw [getLsbD_packFlags, BitVec.getLsbD_and]
  interval_cases i <;> simp [unpackFlags]

/-- Sixteen flag settings, each a closed byte. -/
theorem toNat_packFlags (f : Flags) :
    (packFlags f).toNat = 128 * f.z.toNat + 64 * f.n.toNat + 32 * f.h.toNat + 16 * f.c.toNat := by
  have all : ∀ z n h c : Bool, (packFlags ⟨z, n, h, c⟩).toNat =
      128 * z.toNat + 64 * n.toNat + 32 * h.toNat + 16 * c.toNat := by decide
  exact all f.z f.n f.h f.c

/-- Settles O5, bit by bit for the two round trips and over the sixteen flag settings for the byte's value. -/
theorem flagsBytePacks : Obligations.FlagsBytePacks :=
  ⟨toNat_packFlags, packFlags_unpackFlags, unpackFlags_packFlags⟩

end Sys2Proof.Machine
end

section
/-! How the descriptor of a first byte makes an encoding (30_encoding.md R120, R121, R134, R136): one rule for the primary table
and one for each operand format, so that the encoding of a form is read off its slot. -/

namespace Sys2Proof.Machine

section

variable {i : Instr} {op : Byte} {args : List Byte}

theorem instrLength_primary (noPrefix : op ≠ 0xCB) : instrLength op = (primarySlot op).length :=
  if_neg noPrefix

theorem decode3_primary (noPrefix : op ≠ 0xCB) (b1 b2 : Byte) :
    decode3 op b1 b2 = (primarySlot op).make b1 b2 :=
  if_neg noPrefix

theorem pcAdvance_primary (enc : encode i = op :: args) (noPrefix : op ≠ 0xCB) (valid : ∀ b, i ≠ .invalid b) :
    i.pcAdvance = (primarySlot op).length := by
  rw [Instr.pcAdvance, enc]
  · cases args with
    | nil => rfl
    | cons => exact if_neg noPrefix
  · exact valid

theorem baseCycles_primary (enc : encode i = op :: args) (noPrefix : op ≠ 0xCB) (valid : ∀ b, i ≠ .invalid b) :
    i.baseCycles = (primarySlot op).cycles := by
  rw [Instr.baseCycles, enc]
  · cases args with
    | nil => rfl
    | cons => exact if_neg noPrefix
  · exact valid

/-- The decoder takes as many bytes as the slot says and hands the two after the first to the slot, whatever they are. -/
theorem decode_primary (noPrefix : op ≠ 0xCB) (len : (primarySlot op).length = args.length + 1) (rest : List Byte) :
    decode (op :: args ++ rest) =
      .ok ((primarySlot op).make ((args ++ rest).getD 0 0) ((args ++ rest).getD 1 0), rest) := by
  have whole : ¬ (op :: (args ++ rest)).length < args.length + 1 := by simp
  rw [List.cons_append, decode, instrLength_primary noPrefix, len, if_neg whole, decode3_primary noPrefix]
  simp

theorem encodes_primary (enc : encode i = op :: args) (noPrefix : op ≠ 0xCB) (valid : ∀ b, i ≠ .invalid b)
    (len : (primarySlot op).length = args.length + 1)
    (make : ∀ rest, (primarySlot op).make ((args ++ rest).getD 0 0) ((args ++ rest).getD 1 0) = i) :
    Encodes i (op :: args) (primarySlot op).cycles :=
  ⟨enc, fun rest => by rw [decode_primary noPrefix len, make],
    (pcAdvance_primary enc noPrefix valid).trans len, baseCycles_primary enc noPrefix valid⟩

end

section

variable {op : Byte} {cycles : Nat}

/-- Format P1: the first byte alone (30_encoding.md R120). -/
theorem encodes_slot1 {i : Instr} (slot : primarySlot op = slot1 cycles i) (enc : encode i = [op])
    (noPrefix : op ≠ 0xCB := by decide) (valid : ∀ b, i ≠ .invalid b := by nofun) : Encodes i [op] cycles := by
  have rule := encodes_primary enc noPrefix valid (by rw [slot]; rfl) (fun rest => by rw [slot]; rfl)
  rwa [slot] at rule

/-- Format P2: the first byte and an operand byte (30_encoding.md R120). -/
theorem encodes_slot2 {f : Byte → Instr} {n : Byte} (slot : primarySlot op = slot2 cycles f)
    (enc : encode (f n) = [op, n]) (noPrefix : op ≠ 0xCB := by decide)
    (valid : ∀ b, f n ≠ .invalid b := by nofun) : Encodes (f n) [op, n] cycles := by
  have rule := encodes_primary enc noPrefix valid (by rw [slot]; rfl) (fun rest => by rw [slot]; rfl)
  rwa [slot] at rule

/-- Format P3: the first byte and a little-endian word, which the decoder puts together again (30_encoding.md R120, R129). -/
theorem encodes_slot3 {f : Word → Instr} {nn : Word} (slot : primarySlot op = slot3 cycles f)
    (enc : encode (f nn) = [op, loByte nn, hiByte nn]) (noPrefix : op ≠ 0xCB := by decide)
    (valid : ∀ b, f nn ≠ .invalid b := by nofun) :
    Encodes (f nn) [op, loByte nn, hiByte nn] cycles := by
  have rule := encodes_primary enc noPrefix valid (by rw [slot]; rfl)
    (fun rest => by rw [slot]; exact congrArg f (wordOf_hiByte_loByte nn))
  rwa [slot] at rule

end

end Sys2Proof.Machine
end

section
/-! The 8-bit loads (40_load8.md R200 to R218): the encoding of each family, case by case over its registers, and what the
shared load operations leave. -/

namespace Sys2Proof.Machine

/-! ## Encodings of the register families -/

theorem encodes_ldReg (dst r : Reg8) :
    Encodes (Instr.ldReg dst r) [0x40 + 8 * (Operand.reg dst).code + (Operand.reg r).code] 4 := by
  cases dst <;> cases r <;> exact encodes_slot1 rfl rfl

theorem encodes_ldImm (dst : Reg8) (n : Byte) :
    Encodes (Instr.ldImm dst n) [0x06 + 8 * (Operand.reg dst).code, n] 8 := by
  cases dst <;> exact encodes_slot2 rfl rfl

theorem encodes_ldFromHl (dst : Reg8) : Encodes (Instr.ldFromHl dst) [0x46 + 8 * (Operand.reg dst).code] 8 := by
  cases dst <;> exact encodes_slot1 rfl rfl

theorem encodes_ldToHl (r : Reg8) : Encodes (Instr.ldToHl r) [0x70 + (Operand.reg r).code] 8 := by
  cases r <;> exact encodes_slot1 rfl rfl

/-! ## Addresses and steps -/

/-- The high page as a sum: no carry leaves the low byte, since 0xFF00's is zero (30_encoding.md R129). -/
theorem highPage_eq_ofNat (n : Byte) : highPage n = BitVec.ofNat 16 (0xFF00 + n.toNat) := by
  have joined : (0xFF <<< 8) + n.toNat = 0xFF <<< 8 ||| n.toNat := Nat.shiftLeft_add_eq_or_of_lt n.isLt 0xFF
  apply BitVec.eq_of_toNat_eq
  rw [highPage, wordOf, BitVec.toNat_append, BitVec.toNat_ofNat]
  exact joined.symm.trans (Nat.mod_eq_of_lt (by omega)).symm

/-- The store leaves HL, so the step starts from the old HL (40_load8.md R215, R216). -/
theorem storeAStep_eq (step : Word) (s : State) :
    storeAStep step s = .next ((s.memWrite s.hl s.regs.a).setPair .hl (s.hl + step)) := by
  simp [storeAStep, State.reg]

/-- A is no part of HL, so the step starts from the old HL (40_load8.md R217, R218). -/
theorem loadAStep_eq (step : Word) (s : State) :
    loadAStep step s = .next ((s.setReg .a (s.memRead s.hl)).setPair .hl (s.hl + step)) :=
  rfl

/-! ## The statements -/

/-- Settles O20: each family's encoding by its registers, and its meaning by the family's load operation. -/
theorem loadRegisterForms : Obligations.LoadRegisterForms :=
  ⟨fun dst r => ⟨encodes_ldReg dst r, exec_ldReg dst r⟩,
    fun dst n => ⟨encodes_ldImm dst n, exec_ldImm dst n⟩,
    fun dst => ⟨encodes_ldFromHl dst, exec_ldFromHl dst⟩,
    fun r => ⟨encodes_ldToHl r, exec_ldToHl r⟩,
    fun _ => ⟨encodes_slot2 rfl rfl, fun _ => rfl⟩⟩

/-- Settles O21: six table slots, and the two accumulator operations at the address of each form. -/
theorem loadAccumulatorForms : Obligations.LoadAccumulatorForms :=
  ⟨encodes_slot1 rfl rfl, encodes_slot1 rfl rfl, encodes_slot1 rfl rfl, encodes_slot1 rfl rfl,
    fun _ => ⟨encodes_slot3 rfl rfl, encodes_slot3 rfl rfl⟩,
    fun _ => ⟨rfl, rfl, rfl, rfl, fun _ => ⟨rfl, rfl⟩⟩⟩

/-- Settles O22: the accumulator operations at a high page address, which is the sum 0xFF00 + n. -/
theorem loadHighPageForms : Obligations.LoadHighPageForms := by
  simp only [Obligations.LoadHighPageForms, ← highPage_eq_ofNat]
  exact ⟨fun _ => ⟨encodes_slot2 rfl rfl, encodes_slot2 rfl rfl⟩, encodes_slot1 rfl rfl, encodes_slot1 rfl rfl,
    fun _ _ => ⟨rfl, rfl⟩, fun _ => ⟨rfl, rfl⟩⟩

/-- Settles O23: the access leaves HL, and a step down adds the negative of one. -/
theorem loadHlStepForms : Obligations.LoadHlStepForms := by
  simp only [Obligations.LoadHlStepForms, BitVec.sub_eq_add_neg]
  exact ⟨encodes_slot1 rfl rfl, encodes_slot1 rfl rfl, encodes_slot1 rfl rfl, encodes_slot1 rfl rfl,
    fun s => ⟨storeAStep_eq 1 s, storeAStep_eq (-1) s, loadAStep_eq 1 s, loadAStep_eq (-1) s⟩⟩

end Sys2Proof.Machine
end

section
/-! The 16-bit loads (41_load16_stack.md R231, R233): the encoding by the pair, and the pair read back. -/

namespace Sys2Proof.Machine

theorem encodes_ldPairImm (p : Pair) (nn : Word) :
    Encodes (Instr.ldPairImm p nn) [0x01 + 16 * p.code, loByte nn, hiByte nn] 12 := by
  cases p <;> exact encodes_slot3 rfl rfl

/-- Table `rp` has SP where table `rp2` has AF (30_encoding.md R125). -/
theorem pairReg_ne_af (p : Pair) : pairReg p ≠ .af := by
  cases p <;> decide

/-- Settles O24: LD rr,d16 by the pair, which is never AF and so reads back exactly; LD SP,HL is one table slot. -/
theorem loadPairForms : Obligations.LoadPairForms :=
  ⟨fun p nn => ⟨encodes_ldPairImm p nn,
      fun s => ⟨exec_ldPairImm p nn s, pair_setPair s (pairReg p) nn (pairReg_ne_af p)⟩⟩,
    encodes_slot1 rfl rfl, fun _ => rfl⟩

end Sys2Proof.Machine
end

section
/-! 8-bit arithmetic and logic (42_alu8.md R250 to R267): the encodings by operand, the value-and-flag computations as the rules
write them, and each family's meaning from the two. -/

namespace Sys2Proof.Machine

/-! ## Encodings -/

theorem encodes_alu (op : AluOp) (src : Source) : Encodes (Instr.alu op src) (aluBytes op src) (aluCost src) := by
  cases src with
  | reg r => cases op <;> cases r <;> exact encodes_slot1 rfl rfl
  | indHl => cases op <;> exact encodes_slot1 rfl rfl
  | imm n => cases op <;> exact encodes_slot2 rfl rfl

/-- Cycles of INC and DEC (42_alu8.md R260 to R263): 4 for a register, 12 for the byte at HL. -/
def incDecCost (m : Operand) : Nat :=
  match m with
  | .reg _ => 4
  | .indHl => 12

theorem encodes_inc8 (m : Operand) : Encodes (Instr.inc8 m) [0x04 + 8 * m.code] (incDecCost m) := by
  cases m with
  | reg r => cases r <;> exact encodes_slot1 rfl rfl
  | indHl => exact encodes_slot1 rfl rfl

theorem encodes_dec8 (m : Operand) : Encodes (Instr.dec8 m) [0x05 + 8 * m.code] (incDecCost m) := by
  cases m with
  | reg r => cases r <;> exact encodes_slot1 rfl rfl
  | indHl => exact encodes_slot1 rfl rfl

/-! ## Results and flags -/

@[simp] theorem toNat_bit8 (b : Bool) : (bit8 b).toNat = b.toNat := by
  cases b <;> rfl

/-- The truncated sum is zero when the exact one is a multiple of 256. -/
theorem addCarry_eq (a v : Byte) (cin : Bool) :
    addCarry a v cin =
      (BitVec.ofNat 8 (a.toNat + v.toNat + cin.toNat),
        { z := decide ((a.toNat + v.toNat + cin.toNat) % 256 = 0), n := false
          h := decide (a.toNat % 16 + v.toNat % 16 + cin.toNat > 15)
          c := decide (a.toNat + v.toNat + cin.toNat > 255) }) := by
  have zero (k : Nat) : (BitVec.ofNat 8 k == 0) = decide (k % 256 = 0) := by
    simp [beq_eq_decide, BitVec.toNat_eq]
  simp only [addCarry, zero]

/-- The truncated difference is the difference of bytes. -/
theorem ofInt_sub_sub (a v : Byte) (cin : Bool) :
    BitVec.ofInt 8 (a.toNat - v.toNat - cin.toNat) = a - v - bit8 cin := by
  simp only [Int.sub_eq_add_neg, BitVec.sub_eq_add_neg, BitVec.ofInt_add, BitVec.ofInt_neg, ← toNat_bit8,
    BitVec.ofInt_natCast, BitVec.ofNat_toNat, BitVec.setWidth_eq]

theorem subBorrow_eq (a v : Byte) (cin : Bool) :
    subBorrow a v cin =
      (a - v - bit8 cin,
        { z := a - v - bit8 cin == 0, n := true
          h := decide (a.toNat % 16 < v.toNat % 16 + (bit8 cin).toNat)
          c := decide (a.toNat < v.toNat + (bit8 cin).toNat) }) := by
  simp only [subBorrow, ofInt_sub_sub, toNat_bit8]

theorem subBorrow_false (a v : Byte) :
    subBorrow a v false =
      (a - v,
        { z := a - v == 0, n := true, h := decide (a.toNat % 16 < v.toNat % 16)
          c := decide (a.toNat < v.toNat) }) := by
  rw [subBorrow_eq, show bit8 false = 0 from rfl, sub_zero]
  rfl

/-- A difference is zero exactly for equal bytes, so CP's Z compares (42_alu8.md R259). -/
theorem sub_beq_zero (a v : Byte) : (a - v == 0) = (a == v) := by
  simp only [beq_eq_decide, sub_eq_zero]

/-- The low nibble of a byte, by a mask or by a remainder. -/
theorem and_low_nibble_beq (v k : Byte) : (v &&& 0x0F == k) = decide (v.toNat % 16 = k.toNat) := by
  simp [beq_eq_decide, BitVec.toNat_eq, Nat.and_two_pow_sub_one_eq_mod v.toNat 4]

theorem increment_fst (v : Byte) : (increment v).1 = v + 1 := by
  simp [increment, BitVec.ofNat_add]

theorem decrement_fst (v : Byte) : (decrement v).1 = v - 1 := by
  simpa [decrement, bit8] using ofInt_sub_sub v 1 false

/-- INC wraps to zero from 0xFF, and carries out of bit 3 from a low nibble of 15 (42_alu8.md R251). -/
theorem incFlags_eq (f : Flags) (v : Byte) :
    incFlags f v = { z := v == 0xFF, n := false, h := v &&& 0x0F == 0x0F, c := f.c } := by
  have zero : (v + 1 == 0) = (v == 0xFF) := by
    rw [← sub_beq_zero v, BitVec.sub_eq_add_neg]
    rfl
  have carry : (increment v).2 = (v &&& 0x0F == 0x0F) := by
    have nibble : v.toNat % 16 + 1 > 15 ↔ v.toNat % 16 = 15 := by omega
    exact (decide_eq_decide.mpr nibble).trans (and_low_nibble_beq v 0x0F).symm
  rw [incFlags, increment_fst, zero, carry]

/-- DEC reaches zero from 1, and borrows into bit 3 from a low nibble of 0 (42_alu8.md R251). -/
theorem decFlags_eq (f : Flags) (v : Byte) :
    decFlags f v = { z := v == 0x01, n := true, h := v &&& 0x0F == 0x00, c := f.c } := by
  have borrow : (decrement v).2 = (v &&& 0x0F == 0x00) := (and_low_nibble_beq v 0).symm
  rw [decFlags, decrement_fst, sub_beq_zero, borrow]

/-! ## Meanings -/

/-- An operation on A stores the value and the flags of its result (42_alu8.md R252 to R259). -/
theorem exec_alu_of_result {op : AluOp} {src : Source} {s : State} {r : Byte} {f : Flags}
    (result : aluResult op s.regs.a (s.src8 src) s.flags.c = (r, f)) :
    exec (Instr.alu op src) s = .next ((s.setReg .a r).setFlags f) := by
  rw [exec_alu, aluOperation, State.reg, result]

/-- CP leaves A and tells equality by Z (42_alu8.md R259). -/
theorem exec_cp (src : Source) (s : State) :
    exec (Instr.alu .cp src) s =
      .next (s.setFlags
        { z := s.regs.a == s.src8 src, n := true, h := decide (s.regs.a.toNat % 16 < (s.src8 src).toNat % 16)
          c := decide (s.regs.a.toNat < (s.src8 src).toNat) }) :=
  exec_alu_of_result (r := s.regs.a) (by rw [aluResult, subBorrow_false, sub_beq_zero])

/-! ## The statements -/

/-- Settles O29: ADD is the sum with no carry in, ADC the sum with the carry flag. -/
theorem addForms : Obligations.AddForms := fun src =>
  ⟨encodes_alu .add src, encodes_alu .adc src, fun s =>
    ⟨exec_alu_of_result (addCarry_eq s.regs.a (s.src8 src) false),
      exec_alu_of_result (addCarry_eq s.regs.a (s.src8 src) s.flags.c)⟩⟩

/-- Settles O30: SUB is the difference with no borrow in, SBC the one with the carry flag, and CP keeps only SUB's flags. -/
theorem subtractForms : Obligations.SubtractForms := fun src =>
  ⟨encodes_alu .sub src, encodes_alu .sbc src, encodes_alu .cp src, fun s =>
    ⟨exec_alu_of_result (subBorrow_false s.regs.a (s.src8 src)),
      exec_alu_of_result (subBorrow_eq s.regs.a (s.src8 src) s.flags.c), exec_cp src s⟩⟩

/-- Settles O31: the three bitwise results are the model's, with the half carry of each. -/
theorem logicForms : Obligations.LogicForms := fun src =>
  ⟨encodes_alu .and src, encodes_alu .xor src, encodes_alu .or src, fun _ =>
    ⟨exec_alu_of_result rfl, exec_alu_of_result rfl, exec_alu_of_result rfl⟩⟩

/-- Settles O32: the byte moves by one, with the flags of the rule, in a register or at HL alike. -/
theorem incDecForms : Obligations.IncDecForms := by
  refine fun m => ⟨encodes_inc8 m, encodes_dec8 m, fun s => ⟨?_, ?_⟩⟩
  · rw [exec_inc8, incOperand, increment_fst, incFlags_eq]
    rfl
  · rw [exec_dec8, decOperand, decrement_fst, decFlags_eq]
    rfl

/-- Settles O34: the complement of A is 0xFF - A, and the flags are each rule's own. -/
theorem flagOperations : Obligations.FlagOperations := by
  refine ⟨encodes_slot1 rfl rfl, encodes_slot1 rfl rfl, encodes_slot1 rfl rfl, fun s => ⟨?_, rfl, rfl⟩⟩
  have complement : 0xFF - s.regs.a = ~~~s.regs.a := BitVec.allOnes_sub_eq_not s.regs.a
  rw [complement]
  rfl

end Sys2Proof.Machine
end

section
/-! 16-bit arithmetic (43_alu16.md R280, R282, R283): the encodings by the pair, and the sum and the two steps as the rules write
them. -/

namespace Sys2Proof.Machine

/-! ## Encodings -/

theorem encodes_addHlPair (p : Pair) : Encodes (Instr.addHlPair p) [0x09 + 16 * p.code] 8 := by
  cases p <;> exact encodes_slot1 rfl rfl

theorem encodes_incPair (p : Pair) : Encodes (Instr.incPair p) [0x03 + 16 * p.code] 8 := by
  cases p <;> exact encodes_slot1 rfl rfl

theorem encodes_decPair (p : Pair) : Encodes (Instr.decPair p) [0x0B + 16 * p.code] 8 := by
  cases p <;> exact encodes_slot1 rfl rfl

/-! ## Results -/

/-- The truncated exact sum is the sum of words (43_alu16.md R280). -/
theorem addHlResult_eq (hl v : Word) (f : Flags) :
    addHlResult hl v f =
      (hl + v,
        { z := f.z, n := false, h := decide (hl.toNat % 4096 + v.toNat % 4096 > 4095)
          c := decide (hl.toNat + v.toNat > 65535) }) := by
  rw [addHlResult, BitVec.ofNat_add, BitVec.ofNat_toNat, BitVec.ofNat_toNat, BitVec.setWidth_eq, BitVec.setWidth_eq]

/-- One more than a word, truncated (43_alu16.md R282). -/
theorem ofNat_toNat_add_one (v : Word) : BitVec.ofNat 16 (v.toNat + 1) = v + 1 := by
  rw [BitVec.ofNat_add, BitVec.ofNat_toNat, BitVec.setWidth_eq]
  rfl

/-- One less than a word, truncated: 0 wraps to 0xFFFF (43_alu16.md R283). -/
theorem ofInt_toNat_sub_one (v : Word) : BitVec.ofInt 16 ((v.toNat : Int) - 1) = v - 1 := by
  rw [Int.sub_eq_add_neg, BitVec.ofInt_add, BitVec.ofInt_neg, BitVec.ofInt_natCast, BitVec.ofNat_toNat,
    BitVec.setWidth_eq, BitVec.sub_eq_add_neg]
  rfl

/-! ## The statement -/

/-- Settles O35: the encodings by the pair, the sum with its carries for ADD, and the step by one for INC and DEC. -/
theorem sixteenBitArithmetic : Obligations.SixteenBitArithmetic := by
  refine fun p => ⟨encodes_addHlPair p, encodes_incPair p, encodes_decPair p, fun s => ⟨?_, ?_, ?_⟩⟩
  · rw [exec_addHlPair, addHlTo, addHlResult_eq]
  · rw [exec_incPair, incPair16, ofNat_toNat_add_one]
  · rw [exec_decPair, decPair16, ofInt_toNat_sub_one]

end Sys2Proof.Machine
end

section
/-! Rotates and shifts (44_rotate_shift.md R294 to R302): the one rule of the extended table's encodings, the bits a rotate moves as
the sums the rules write, and the meaning of an operation from its result. -/

namespace Sys2Proof.Machine

/-! ## Encodings -/

/-- Format CB: the byte 0xCB and the extended opcode, the only byte the slot counts in its length (30_encoding.md R120, R121). -/
theorem encodes_extended {i : Instr} {op : Byte} {cycles : Nat} (slot : extendedSlot op = slot1 cycles i)
    (enc : encode i = [0xCB, op]) (valid : ∀ b, i ≠ .invalid b := by nofun) : Encodes i [0xCB, op] cycles := by
  refine ⟨enc, fun rest => ?_, ?_, ?_⟩
  · have whole : ¬ (0xCB :: op :: rest).length < instrLength 0xCB := by simp [instrLength]
    have made : decode3 0xCB op (rest.getD 0 0) = i := congrArg (Slot.make · 0 0) slot
    rw [List.cons_append, List.cons_append, List.nil_append, decode, if_neg whole, ← made]
    rfl
  · rw [Instr.pcAdvance, enc]
    · exact congrArg (1 + Slot.length ·) slot
    · exact valid
  · rw [Instr.baseCycles, enc]
    · exact congrArg Slot.cycles slot
    · exact valid

theorem encodes_rot (op : RotOp) (m : Operand) :
    Encodes (Instr.rot op m) [0xCB, 8 * op.code + m.code] (operandCost m) := by
  cases m with
  | reg r => cases op <;> cases r <;> exact encodes_extended rfl rfl
  | indHl => cases op <;> exact encodes_extended rfl rfl

/-! ## Bits moved as sums -/

theorem getLsbD_zero_eq_decide (v : Byte) : v.getLsbD 0 = decide (v.toNat % 2 = 1) :=
  Nat.testBit_zero v.toNat

theorem getLsbD_seven_eq_decide (v : Byte) : v.getLsbD 7 = decide (128 ≤ v.toNat) :=
  (BitVec.msb_eq_getLsbD_last v).symm.trans (BitVec.msb_eq_decide v)

theorem toNat_getLsbD_zero (v : Byte) : (v.getLsbD 0).toNat = v.toNat % 2 :=
  (Nat.toNat_testBit v.toNat 0).trans (by rw [pow_zero, Nat.div_one])

theorem toNat_getLsbD_seven (v : Byte) : (v.getLsbD 7).toNat = v.toNat / 128 := by
  have top : v.toNat / 2 ^ 7 < 2 := by omega
  exact (Nat.toNat_testBit v.toNat 7).trans (Nat.mod_eq_of_lt top)

/-- Joining a shifted byte with one that fits below the shift is a sum, since no bit meets another. -/
theorem shiftLeft_or_eq_ofNat (hi lo : Byte) {k : Nat} (fits : lo.toNat < 2 ^ k) :
    hi <<< k ||| lo = BitVec.ofNat 8 (2 ^ k * hi.toNat + lo.toNat) := by
  rw [Nat.mul_comm, ← Nat.shiftLeft_eq, Nat.shiftLeft_add_eq_or_of_lt fits, BitVec.ofNat_or, BitVec.ofNat_toNat, BitVec.setWidth_eq]
  rfl

/-- A shift to the left with the bit `b` coming in at the bottom. -/
theorem shiftLeft_or_bit8 (v : Byte) (b : Bool) :
    v <<< 1 ||| bit8 b = BitVec.ofNat 8 (2 * v.toNat + b.toNat) := by
  rw [shiftLeft_or_eq_ofNat _ _ (by simpa using b.toNat_lt), toNat_bit8, pow_one]

/-- A shift to the right with the bit `b` coming in at the top. -/
theorem ushiftRight_or_bit8 (v : Byte) (b : Bool) :
    v >>> 1 ||| bit8 b <<< 7 = BitVec.ofNat 8 (v.toNat / 2 + 128 * b.toNat) := by
  have half : (v >>> 1).toNat = v.toNat / 2 := by rw [BitVec.toNat_ushiftRight, Nat.shiftRight_one]
  rw [BitVec.or_comm, shiftLeft_or_eq_ofNat _ _ (by omega), half, toNat_bit8, Nat.add_comm]
  rfl

/-- The sign bit of a byte, by a mask or by its place. -/
theorem and_sign_mask (v : Byte) : v &&& (0x80 : Byte) = bit8 (v.getLsbD 7) <<< 7 := by
  rw [show (0x80 : Byte) = BitVec.twoPow 8 7 from rfl, BitVec.and_twoPow]
  cases v.getLsbD 7 <;> rfl

theorem swap_nibbles (v : Byte) :
    (v &&& 0x0F) <<< 4 ||| v >>> 4 = BitVec.ofNat 8 (16 * (v.toNat % 16) + v.toNat / 16) := by
  have low : (v &&& 0x0F).toNat = v.toNat % 16 := Nat.and_two_pow_sub_one_eq_mod v.toNat 4
  have high : (v >>> 4).toNat = v.toNat / 16 := by rw [BitVec.toNat_ushiftRight, Nat.shiftRight_eq_div_pow]
  rw [shiftLeft_or_eq_ofNat _ _ (by omega), low, high]
  rfl

/-! ## Results -/

section

variable (v : Byte) (cin : Bool)

theorem rotResult_rlc :
    rotResult .rlc v cin = (BitVec.ofNat 8 (2 * v.toNat + v.toNat / 128), decide (128 ≤ v.toNat)) := by
  rw [rotResult, shiftLeft_or_bit8, toNat_getLsbD_seven, getLsbD_seven_eq_decide]

theorem rotResult_rrc :
    rotResult .rrc v cin = (BitVec.ofNat 8 (v.toNat / 2 + 128 * (v.toNat % 2)), decide (v.toNat % 2 = 1)) := by
  rw [rotResult, ushiftRight_or_bit8, toNat_getLsbD_zero, getLsbD_zero_eq_decide]

theorem rotResult_rl :
    rotResult .rl v cin = (BitVec.ofNat 8 (2 * v.toNat + cin.toNat), decide (128 ≤ v.toNat)) := by
  rw [rotResult, shiftLeft_or_bit8, getLsbD_seven_eq_decide]

theorem rotResult_rr :
    rotResult .rr v cin = (BitVec.ofNat 8 (v.toNat / 2 + 128 * cin.toNat), decide (v.toNat % 2 = 1)) := by
  rw [rotResult, ushiftRight_or_bit8, getLsbD_zero_eq_decide]

/-- A zero comes in at the bottom (44_rotate_shift.md R299). -/
theorem rotResult_sla : rotResult .sla v cin = (BitVec.ofNat 8 (2 * v.toNat), decide (128 ≤ v.toNat)) := by
  have shift : v <<< 1 = BitVec.ofNat 8 (2 * v.toNat) := by simpa [bit8] using shiftLeft_or_bit8 v false
  rw [rotResult, shift, getLsbD_seven_eq_decide]

/-- Bit 7 comes in at the top again (44_rotate_shift.md R300). -/
theorem rotResult_sra :
    rotResult .sra v cin = (BitVec.ofNat 8 (v.toNat / 2 + 128 * (v.toNat / 128)), decide (v.toNat % 2 = 1)) := by
  rw [rotResult, and_sign_mask, ushiftRight_or_bit8, toNat_getLsbD_seven, getLsbD_zero_eq_decide]

theorem rotResult_swap :
    rotResult .swap v cin = (BitVec.ofNat 8 (16 * (v.toNat % 16) + v.toNat / 16), false) := by
  rw [rotResult, swap_nibbles]

/-- A zero comes in at the top (44_rotate_shift.md R302). -/
theorem rotResult_srl : rotResult .srl v cin = (BitVec.ofNat 8 (v.toNat / 2), decide (v.toNat % 2 = 1)) := by
  have shift : v >>> 1 = BitVec.ofNat 8 (v.toNat / 2) := by simpa [bit8] using ushiftRight_or_bit8 v false
  rw [rotResult, shift, getLsbD_zero_eq_decide]

end

/-! ## The statement -/

theorem ofNat_beq_zero (n : Nat) : (BitVec.ofNat 8 n == 0) = decide (n % 256 = 0) := by
  simp [beq_eq_decide, BitVec.toNat_eq]

/-- An operation writes its result back, takes Z from it and the bit moved out as the carry (44_rotate_shift.md R294). -/
theorem exec_rot_of_result {op : RotOp} {m : Operand} {s : State} {n : Nat} {out : Bool}
    (result : rotResult op (s.getOperand m) s.flags.c = (BitVec.ofNat 8 n, out)) :
    exec (Instr.rot op m) s =
      .next ((s.setOperand m (BitVec.ofNat 8 n)).setFlags
        { z := decide (n % 256 = 0), n := false, h := false, c := out }) := by
  rw [exec_rot, rotateOperand, rotFlags, result, ofNat_beq_zero]

/-- Settles O37: the encodings by operation and operand, and each operation's meaning by its result and carry. -/
theorem extendedRotates : Obligations.ExtendedRotates := fun m =>
  ⟨fun op => encodes_rot op m, fun s =>
    let v := s.getOperand m
    let c := s.flags.c
    ⟨exec_rot_of_result (rotResult_rlc v c), exec_rot_of_result (rotResult_rrc v c),
      exec_rot_of_result (rotResult_rl v c), exec_rot_of_result (rotResult_rr v c),
      exec_rot_of_result (rotResult_sla v c), exec_rot_of_result (rotResult_sra v c),
      exec_rot_of_result (rotResult_swap v c), exec_rot_of_result (rotResult_srl v c)⟩⟩

end Sys2Proof.Machine
end

section
/-! Bit test, reset and set (45_bit.md R310 to R313): the encodings by bit and operand, and a byte as the sum of one of its bits and
the others, from which the tested bit and the two writes follow as the statements write them. -/

namespace Sys2Proof.Machine

/-! ## Encodings -/

/-- Cycles of BIT (45_bit.md R310, R311): 8 for a register, 12 for the byte at HL, which is only read. -/
def testCost (m : Operand) : Nat :=
  match m with
  | .reg _ => 8
  | .indHl => 12

theorem encodes_bit (b : Fin 8) (m : Operand) :
    Encodes (Instr.bit b m) [0xCB, 0x40 + 8 * BitVec.ofNat 8 b.val + m.code] (testCost m) := by
  cases m with
  | reg r => fin_cases b <;> cases r <;> exact encodes_extended rfl rfl
  | indHl => fin_cases b <;> exact encodes_extended rfl rfl

theorem encodes_res (b : Fin 8) (m : Operand) :
    Encodes (Instr.res b m) [0xCB, 0x80 + 8 * BitVec.ofNat 8 b.val + m.code] (operandCost m) := by
  cases m with
  | reg r => fin_cases b <;> cases r <;> exact encodes_extended rfl rfl
  | indHl => fin_cases b <;> exact encodes_extended rfl rfl

theorem encodes_set (b : Fin 8) (m : Operand) :
    Encodes (Instr.set b m) [0xCB, 0xC0 + 8 * BitVec.ofNat 8 b.val + m.code] (operandCost m) := by
  cases m with
  | reg r => fin_cases b <;> cases r <;> exact encodes_extended rfl rfl
  | indHl => fin_cases b <;> exact encodes_extended rfl rfl

/-! ## One bit of a byte -/

section

variable (v mask : Byte)

/-- Bytes with no bit in common join to their sum. -/
theorem toNat_or_of_disjoint {x y : Byte} (disjoint : x &&& y = 0) : (x ||| y).toNat = x.toNat + y.toNat := by
  rw [← BitVec.add_eq_or_of_and_eq_zero x y disjoint, BitVec.toNat_add_of_and_eq_zero disjoint]

/-- A byte is what a mask takes from it beside what the mask leaves. -/
theorem toNat_and_not_add_and : (v &&& ~~~mask).toNat + (v &&& mask).toNat = v.toNat := by
  have disjoint : v &&& ~~~mask &&& (v &&& mask) = 0 := by
    ext i
    simp +contextual
  have whole : v &&& ~~~mask ||| v &&& mask = v := by
    ext i
    simp [← Bool.and_or_distrib_left]
  rw [← toNat_or_of_disjoint disjoint, whole]

/-- Setting the bits of a mask adds them to the other bits of the byte. -/
theorem toNat_or_mask : (v ||| mask).toNat = (v &&& ~~~mask).toNat + mask.toNat := by
  have disjoint : v &&& ~~~mask &&& mask = 0 := by
    ext i
    simp +contextual
  have joined : v &&& ~~~mask ||| mask = v ||| mask := by
    ext i
    simp [Bool.or_and_distrib_right]
  rw [← toNat_or_of_disjoint disjoint, joined]

end

section

variable (b : Fin 8) (v : Byte)

theorem bitMask_eq_twoPow : (1 : Byte) <<< b.val = BitVec.twoPow 8 b.val :=
  (BitVec.twoPow_eq 8 b.val).symm

theorem toNat_getLsbD : (v.getLsbD b.val).toNat = v.toNat / 2 ^ b.val % 2 :=
  Nat.toNat_testBit v.toNat b.val

/-- A mask of one bit takes the bit, at its place. -/
theorem toNat_and_bitMask : (v &&& (1 : Byte) <<< b.val).toNat = v.toNat / 2 ^ b.val % 2 * 2 ^ b.val := by
  rw [bitMask_eq_twoPow, BitVec.and_twoPow, ← toNat_getLsbD]
  cases v.getLsbD b.val with
  | false => simp
  | true => simp [BitVec.toNat_twoPow_of_lt b.isLt]

/-- A byte is its bit `b`, at its place, beside what RES leaves of it. -/
theorem toNat_resBit_add : (resBit b v).toNat + v.toNat / 2 ^ b.val % 2 * 2 ^ b.val = v.toNat := by
  rw [resBit, ← toNat_and_bitMask, toNat_and_not_add_and]

/-- SET adds bit `b` to what RES leaves of the byte. -/
theorem toNat_setBit : (setBit b v).toNat = (resBit b v).toNat + 2 ^ b.val := by
  rw [setBit, resBit, toNat_or_mask, bitMask_eq_twoPow, BitVec.toNat_twoPow_of_lt b.isLt]

/-- Z tells a clear bit (45_bit.md R310). -/
theorem bitFlags_eq (f : Flags) :
    bitFlags f b v = { z := decide (v.toNat / 2 ^ b.val % 2 = 0), n := false, h := true, c := f.c } := by
  have clear : (!v.getLsbD b.val) = decide (v.toNat / 2 ^ b.val % 2 = 0) := by
    rw [← toNat_getLsbD]
    cases v.getLsbD b.val <;> rfl
  rw [bitFlags, clear]

theorem resBit_eq : resBit b v = BitVec.ofNat 8 (v.toNat - v.toNat / 2 ^ b.val % 2 * 2 ^ b.val) := by
  rw [← Nat.eq_sub_of_add_eq (toNat_resBit_add b v), BitVec.ofNat_toNat, BitVec.setWidth_eq]

theorem setBit_eq : setBit b v = BitVec.ofNat 8 (v.toNat + (1 - v.toNat / 2 ^ b.val % 2) * 2 ^ b.val) := by
  have value : (setBit b v).toNat = v.toNat + (1 - v.toNat / 2 ^ b.val % 2) * 2 ^ b.val := by
    have split := toNat_resBit_add b v
    have sum : v.toNat / 2 ^ b.val % 2 * 2 ^ b.val + (1 - v.toNat / 2 ^ b.val % 2) * 2 ^ b.val = 2 ^ b.val := by
      rw [← Nat.add_mul, Nat.add_sub_cancel' (by omega), Nat.one_mul]
    rw [toNat_setBit]
    omega
  rw [← value, BitVec.ofNat_toNat, BitVec.setWidth_eq]

end

/-! ## The statements -/

/-- Settles O38: BIT sets the flags of the tested bit, and its state is otherwise the one before. -/
theorem bitTests : Obligations.BitTests := by
  refine fun b m => ⟨encodes_bit b m, fun s => ?_⟩
  rw [exec_bit, testBitOf, bitFlags_eq]
  rfl

/-- Settles O39: RES takes the bit away from the operand if it is there, SET adds it if it is not, and both write the result. -/
theorem bitWrites : Obligations.BitWrites := by
  refine fun b m => ⟨encodes_res b m, encodes_set b m, fun s => ⟨?_, ?_⟩⟩
  · rw [exec_res, resetBitOf, resBit_eq]
    rfl
  · rw [exec_set, setBitOf, setBit_eq]
    rfl

end Sys2Proof.Machine
end

section
/-! Unconditional jumps (46_control.md R321, R323, R324): the signed displacement as the rule writes it, and the three targets. -/

namespace Sys2Proof.Machine

/-- The exact sum of a word and a signed byte, truncated, is the sum of words with the byte sign-extended (46_control.md R324). -/
theorem ofInt_toNat_add_toInt (v : Word) (e : Byte) : BitVec.ofInt 16 ((v.toNat : Int) + e.toInt) = v + sext16 e := by
  rw [BitVec.ofInt_add, BitVec.ofInt_natCast, BitVec.ofNat_toNat, BitVec.setWidth_eq, sext16, BitVec.signExtend]

/-- Settles O40: three table slots, and each jump sets PC to its target, for JR the post-fetch PC plus the signed byte. -/
theorem jumps : Obligations.Jumps := by
  simp only [Obligations.Jumps, ofInt_toNat_add_toInt]
  exact ⟨fun _ => encodes_slot3 rfl rfl, encodes_slot1 rfl rfl, fun _ => encodes_slot2 rfl rfl,
    fun _ => ⟨rfl, fun _ => rfl, fun _ => rfl⟩⟩

end Sys2Proof.Machine
end

section
/-! Decoder and encoder against each other (30_encoding.md R120 to R139): the length and the slot of every encoding, and the
bytes of every slot's instruction. -/

namespace Sys2Proof.Machine

/-! ## From an instruction to its bytes -/

/-- Decoding takes as many bytes as the first one says and hands the two after it to the tables, whatever they are. -/
theorem decode_cons {b0 : Byte} {args : List Byte} (len : instrLength b0 = args.length + 1) (rest : List Byte) :
    decode (b0 :: args ++ rest) =
      .ok (decode3 b0 ((args ++ rest).getD 0 0) ((args ++ rest).getD 1 0), rest) := by
  have whole : ¬ (b0 :: (args ++ rest)).length < args.length + 1 := by simp
  rw [List.cons_append, decode, len, if_neg whole]
  simp

/-- The eleven invalid opcodes have their slots in the primary table (30_encoding.md R133). -/
theorem primarySlot_of_invalid {op : Byte} (invalid : invalidSlots.contains op = true) :
    op ≠ 0xCB ∧ primarySlot op = slotInvalid op := by
  simp only [invalidSlots, List.contains_cons, List.contains_nil, Bool.or_eq_true, beq_iff_eq, Bool.false_eq_true,
    or_false] at invalid
  rcases invalid with rfl | rfl | rfl | rfl | rfl | rfl | rfl | rfl | rfl | rfl | rfl <;> exact ⟨by decide, rfl⟩

/-- An encoding has at least its first byte. -/
theorem encode_eq_cons (i : Instr) : ∃ b0 args, encode i = b0 :: args := by
  cases i <;> exact ⟨_, _, rfl⟩

/-- The first byte of an encoding tells its length (30_encoding.md R136). -/
theorem instrLength_encode {i : Instr} {b0 : Byte} {args : List Byte} (wf : i.wf = true) (enc : encode i = b0 :: args) :
    instrLength b0 = args.length + 1 := by
  cases i with
  | invalid op =>
    cases enc
    obtain ⟨noPrefix, slot⟩ := primarySlot_of_invalid wf
    rw [instrLength_primary noPrefix, slot]
    rfl
  | prefixCb => nomatch wf
  | _ => cases enc; rfl

/-- The slot an encoding names makes the instruction, whatever bytes follow. -/
theorem decode3_encode {i : Instr} {b0 : Byte} {args : List Byte} (wf : i.wf = true) (enc : encode i = b0 :: args)
    (rest : List Byte) : decode3 b0 ((args ++ rest).getD 0 0) ((args ++ rest).getD 1 0) = i := by
  cases i with
  | invalid op =>
    cases enc
    obtain ⟨noPrefix, slot⟩ := primarySlot_of_invalid wf
    rw [decode3_primary noPrefix, slot]
    rfl
  | prefixCb => nomatch wf
  | ldBcD16 nn | ldIndA16Sp nn | ldDeD16 nn | ldHlD16 nn | ldSpD16 nn | jpNzA16 nn | jpA16 nn | callNzA16 nn | jpZA16 nn
  | callZA16 nn | callA16 nn | jpNcA16 nn | callNcA16 nn | jpCA16 nn | callCA16 nn | ldIndA16A nn | ldAIndA16 nn =>
    cases enc
    exact congrArg _ (wordOf_hiByte_loByte nn)
  | _ => cases enc; rfl

/-- Settles O1: the first byte of the encoding tells its length and its slot, and the slot makes the instruction. -/
theorem decodeOfEncode : Obligations.DecodeOfEncode := by
  intro i rest wf
  obtain ⟨b0, args, enc⟩ := encode_eq_cons i
  rw [enc, decode_cons (instrLength_encode wf enc), decode3_encode wf enc]

end Sys2Proof.Machine
end

section
/-! From bytes to an instruction and back (30_encoding.md R130, R131, R136, R139): what the slot of each first byte encodes to. -/

namespace Sys2Proof.Machine

/-- The operand bytes of a primary slot, STOP's second byte being written 0x00 (30_encoding.md R120, R139). -/
def slotArgs (op l h : Byte) : List Byte :=
  if op = 0x10 then [0x00]
  else
    match (primarySlot op).length with
    | 2 => [l]
    | 3 => [loByte (wordOf h l), hiByte (wordOf h l)]
    | _ => []

/-- Each primary slot's instruction encodes to its opcode and its operand bytes, and is well formed but for 0xCB. -/
theorem encode_primary (op l h : Byte) :
    encode ((primarySlot op).make l h) = op :: slotArgs op l h ∧
      ((primarySlot op).make l h).wf = (op != 0xCB) := by
  obtain ⟨⟨n, bound⟩⟩ := op
  change n < 256 at bound
  interval_cases n <;> exact ⟨rfl, rfl⟩

/-- Each extended slot's instruction encodes to 0xCB and its opcode. -/
theorem encode_extended (op : Byte) :
    encode ((extendedSlot op).make 0 0) = [0xCB, op] ∧ ((extendedSlot op).make 0 0).wf = true := by
  revert op
  decide +kernel

theorem primarySlot_length (op : Byte) :
    (primarySlot op).length = 1 ∨ (primarySlot op).length = 2 ∨ (primarySlot op).length = 3 := by
  revert op
  decide +kernel

/-- Whatever the bytes, the decoder makes a well-formed instruction that the first byte starts. -/
theorem decode3_wf (b0 b1 b2 : Byte) :
    (decode3 b0 b1 b2).wf = true ∧ ∃ args, encode (decode3 b0 b1 b2) = b0 :: args := by
  by_cases prefixed : b0 = 0xCB
  · subst prefixed
    obtain ⟨enc, wf⟩ := encode_extended b1
    exact ⟨wf, _, enc⟩
  · obtain ⟨enc, wf⟩ := encode_primary b0 b1 b2
    rw [decode3_primary prefixed]
    exact ⟨wf.trans (bne_iff_ne.mpr prefixed), _, enc⟩

/-- STOP is the slot of 0x10 alone. -/
theorem decode3_eq_stop {b0 b1 b2 : Byte} : decode3 b0 b1 b2 = .stop ↔ b0 = 0x10 := by
  constructor
  · intro stop
    obtain ⟨-, args, enc⟩ := decode3_wf b0 b1 b2
    rw [stop] at enc
    exact (List.cons.inj enc).1.symm
  · rintro rfl
    rfl

/-- But for STOP's second byte, the encoding of what was decoded is the bytes its length covers. -/
theorem encode_decode3 {b0 b1 b2 : Byte} (notStop : b0 ≠ 0x10) :
    encode (decode3 b0 b1 b2) = [b0, b1, b2].take (instrLength b0) := by
  by_cases prefixed : b0 = 0xCB
  · subst prefixed
    exact (encode_extended b1).1
  · rw [decode3_primary prefixed, instrLength_primary prefixed, (encode_primary b0 b1 b2).1, slotArgs, if_neg notStop]
    rcases primarySlot_length b0 with len | len | len <;> simp [len]

theorem instrLength_bounds (b0 : Byte) : 1 ≤ instrLength b0 ∧ instrLength b0 ≤ 3 := by
  by_cases prefixed : b0 = 0xCB
  · subst prefixed
    decide
  · rw [instrLength_primary prefixed]
    rcases primarySlot_length b0 with len | len | len <;> omega

/-- The bytes an instruction was decoded from, and how many of them it took. -/
theorem decode_eq_ok {bytes rest : List Byte} {i : Instr} (h : decode bytes = .ok (i, rest)) :
    ∃ b0 tail, bytes = b0 :: tail ∧ instrLength b0 ≤ bytes.length ∧
      i = decode3 b0 (tail.getD 0 0) (tail.getD 1 0) ∧ rest = bytes.drop (instrLength b0) := by
  cases bytes with
  | nil => nomatch h
  | cons b0 tail =>
    rw [decode] at h
    split at h
    · nomatch h
    · cases h
      exact ⟨b0, tail, rfl, by omega, rfl, rfl⟩

/-- The first bytes of a list as the decoder reads them, a missing one as 0. -/
theorem take_eq_take_getD (b0 : Byte) (tail : List Byte) {n : Nat} (few : n ≤ 3) (enough : n ≤ (b0 :: tail).length) :
    [b0, tail.getD 0 0, tail.getD 1 0].take n = (b0 :: tail).take n := by
  match tail, n with
  | _, 0 => rfl
  | _, 1 => rfl
  | _ :: _, 2 => rfl
  | _ :: _ :: _, 3 => rfl

/-- Settles O2: the decoder makes well-formed instructions whose encodings are the bytes taken, and three bytes are always
enough for one. -/
theorem encodeOfDecode : Obligations.EncodeOfDecode := by
  refine ⟨fun bytes rest i h => ?_, fun bytes long => ?_⟩
  · obtain ⟨b0, tail, rfl, enough, rfl, rfl⟩ := decode_eq_ok h
    refine ⟨(decode3_wf _ _ _).1, fun notStop => ?_, fun stop => ?_⟩
    · rw [encode_decode3 (mt decode3_eq_stop.mpr notStop), take_eq_take_getD b0 tail (instrLength_bounds b0).2 enough,
        List.take_append_drop]
    · obtain rfl := decode3_eq_stop.mp stop
      cases tail with
      | nil => exact absurd enough (by decide)
      | cons x rest => exact ⟨x, rfl⟩
  · cases bytes with
    | nil => nomatch long
    | cons b0 tail =>
      have whole : ¬ (b0 :: tail).length < instrLength b0 := by
        have := (instrLength_bounds b0).2
        omega
      exact ⟨_, _, if_neg whole⟩

/-! ## The tables -/

/-- Only an invalid opcode decodes to an invalid slot, and to its own (30_encoding.md R133). -/
theorem decode3_eq_invalid {b0 b1 b2 op : Byte} :
    decode3 b0 b1 b2 = .invalid op ↔ b0 = op ∧ invalidSlots.contains op = true := by
  constructor
  · intro invalid
    obtain ⟨wf, args, enc⟩ := decode3_wf b0 b1 b2
    rw [invalid] at wf enc
    exact ⟨(List.cons.inj enc).1.symm, wf⟩
  · rintro ⟨rfl, invalid⟩
    obtain ⟨noPrefix, slot⟩ := primarySlot_of_invalid invalid
    rw [decode3_primary noPrefix, slot]
    rfl

/-- Settles O3: the lengths and costs slot by slot, and the invalid slots as decoding gives them. -/
theorem invalidSlotsExactly : Obligations.InvalidSlotsExactly := by
  refine ⟨?_, fun op _ => by simpa using primarySlot_length op, ?_, fun _ _ _ _ => decode3_eq_invalid⟩
  · decide +kernel
  · decide +kernel

/-- Settles O4: each word is the encoding of its instruction, with no byte after it. -/
theorem sampleWordsDecode : Obligations.SampleWordsDecode :=
  ⟨decodeOfEncode .xorA [] rfl, decodeOfEncode (.ldHlD16 0x1234) [] rfl, decodeOfEncode .ldIndHlA [] rfl,
    decodeOfEncode (.callA16 0xABCD) [] rfl, decodeOfEncode .ret [] rfl, decodeOfEncode .swapA [] rfl,
    decodeOfEncode .bit4IndHl [] rfl, decodeOfEncode (.jrR8 0xFE) [] rfl⟩

end Sys2Proof.Machine
end

section
/-! The memory map in use (20_memory.md R61 to R100): what a store leaves in each array and register, what a read sees of a store,
and the registers of the I/O page one by one. -/

namespace Sys2Proof.Machine

/-! ## What a store does, by the address it names -/

/-- The outcome `t` of storing `v` at an address from `s` (20_memory.md R61, R80). -/
inductive Stored (s : State) (v : Byte) : Word → State → Prop where
  | rom {a : Word} (range : a.toNat < 0x8000) : Stored s v a (s.setRom (s.rom.write a.toNat v))
  | vram {a : Word} (range : 0x8000 ≤ a.toNat ∧ a.toNat < 0xA000) : Stored s v a (s.setPpu (Config.ppuWrite s.ppu a v))
  | xram {a : Word} (range : 0xA000 ≤ a.toNat ∧ a.toNat < 0xC000) :
    Stored s v a (s.setXram (s.xram.write (a.toNat - 0xA000) v))
  | work {a : Word} (range : 0xC000 ≤ a.toNat ∧ a.toNat < 0xE000) :
    Stored s v a (s.setWram (s.wram.write (a.toNat - 0xC000) v))
  | echo {a : Word} (range : 0xE000 ≤ a.toNat ∧ a.toNat < 0xFE00) :
    Stored s v a (s.setWram (s.wram.write (a.toNat - 0xE000) v))
  | oam {a : Word} (range : 0xFE00 ≤ a.toNat ∧ a.toNat < 0xFEA0) :
    Stored s v a (s.setOam (s.oam.write (a.toNat - 0xFE00) v))
  | unusable {a : Word} (range : 0xFEA0 ≤ a.toNat ∧ a.toNat < 0xFF00) : Stored s v a s
  | joyp : Stored s v 0xFF00 (s.setJoypSel (v.extractLsb' 4 2))
  | sb : Stored s v 0xFF01 (s.writeSb v)
  | sc : Stored s v 0xFF02 (s.setIo (s.io.write 0x02 v))
  | div : Stored s v 0xFF04 (s.setDiv 0)
  | tima : Stored s v 0xFF05 (s.setTima v)
  | tma : Stored s v 0xFF06 (s.setTma v)
  | tac : Stored s v 0xFF07 (s.setTac (v ||| 0xF8))
  | ifReg : Stored s v 0xFF0F (s.setIf (v ||| 0xE0))
  | ppuReg {a : Word} (range : 0xFF40 ≤ a.toNat ∧ a.toNat ≤ 0xFF4B) :
    Stored s v a (s.setPpu (Config.ppuWrite s.ppu a v))
  | bootOff : Stored s v 0xFF50 (s.setBootOff (s.bootOff || v != 0))
  | plain {a : Word} (range : 0xFF00 ≤ a.toNat ∧ a.toNat < 0xFF80) :
    Stored s v a (s.setIo (s.io.write (a.toNat - 0xFF00) v))
  | hram {a : Word} (range : 0xFF80 ≤ a.toNat ∧ a.toNat < 0xFFFF) :
    Stored s v a (s.setHram (s.hram.write (a.toNat - 0xFF80) v))
  | ie : Stored s v 0xFFFF (s.setIe (v ||| s.ieReadOr))

/-- The I/O page, register by register (20_memory.md R80). -/
theorem writeIo_stored (s : State) {a : Word} (v : Byte) (page : 0xFF00 ≤ a.toNat ∧ a.toNat < 0xFF80) :
    Stored s v a (s.writeIo a v) := by
  rcases ioReg_cases a with ⟨hr, k⟩ | ⟨hr, k⟩ | ⟨hr, k⟩ | ⟨hr, k⟩ | ⟨hr, k⟩ | ⟨hr, k⟩ | ⟨hr, k⟩ | ⟨hr, k⟩ | ⟨hr, k⟩ | ⟨hr, k⟩ |
    ⟨hr, k⟩ <;> simp only [State.writeIo, hr]
  · exact (ioReg_joyp a).mp hr ▸ .joyp
  · exact (ioReg_sb a).mp hr ▸ .sb
  · exact (ioReg_sc a).mp hr ▸ .sc
  · exact (ioReg_div a).mp hr ▸ .div
  · exact (ioReg_tima a).mp hr ▸ .tima
  · exact (ioReg_tma a).mp hr ▸ .tma
  · exact (ioReg_tac a).mp hr ▸ .tac
  · exact (ioReg_ifReg a).mp hr ▸ .ifReg
  · exact .ppuReg k
  · exact (ioReg_bootOff a).mp hr ▸ .bootOff
  · exact .plain page

theorem memWrite_stored (s : State) (a : Word) (v : Byte) : Stored s v a (s.memWrite a v) := by
  rcases classify_cases a with ⟨hc, lo, hi⟩ | ⟨hc, lo, hi⟩ | ⟨hc, lo, hi⟩ | ⟨hc, lo, hi⟩ | ⟨hc, lo, hi⟩ | ⟨hc, lo, hi⟩ |
    ⟨hc, lo, hi⟩ | ⟨hc, lo, hi⟩ | ⟨hc, lo, hi⟩ | ⟨hc, lo, hi⟩ | ⟨hc, lo, hi⟩ | ⟨hc, lo, hi⟩ <;>
    simp only [State.memWrite, hc]
  · exact .rom (by omega)
  · exact .rom hi
  · exact .vram ⟨lo, hi⟩
  · exact .xram ⟨lo, hi⟩
  · exact .work (by omega)
  · exact .work (by omega)
  · exact .echo ⟨lo, hi⟩
  · exact .oam ⟨lo, hi⟩
  · exact .unusable ⟨lo, hi⟩
  · exact writeIo_stored s v ⟨lo, hi⟩
  · exact .hram ⟨lo, hi⟩
  · exact (classify_interruptEnable a).mp hc ▸ .ie

theorem workRamOffset_work {x : Word} (work : 0xC000 ≤ x.toNat ∧ x.toNat < 0xE000) :
    workRamOffset x = some (x.toNat - 0xC000) :=
  if_pos work

theorem workRamOffset_echo {x : Word} (echo : 0xE000 ≤ x.toNat ∧ x.toNat < 0xFE00) :
    workRamOffset x = some (x.toNat - 0xE000) := by
  rw [workRamOffset, if_neg (by omega), if_pos echo]

/-! ## What a store leaves in an array or a register it does not name -/

section

variable {s t : State} {a : Word} {v : Byte} (stored : Stored s v a t)
include stored

theorem Stored.xram_read {k : Nat} (other : a.toNat ≠ 0xA000 + k) : t.xram.read k = s.xram.read k := by
  cases stored with
  | xram range => exact Memory.read_write_other s.xram v (by omega)
  | _ => rfl

theorem Stored.oam_read {k : Nat} (other : a.toNat ≠ 0xFE00 + k) : t.oam.read k = s.oam.read k := by
  cases stored with
  | oam range => exact Memory.read_write_other s.oam v (by omega)
  | _ => rfl

theorem Stored.hram_read {k : Nat} (other : a.toNat ≠ 0xFF80 + k) : t.hram.read k = s.hram.read k := by
  cases stored with
  | hram range => exact Memory.read_write_other s.hram v (by omega)
  | _ => rfl

/-- Work RAM is stored to directly or through its echo (20_memory.md R70, R71). -/
theorem Stored.wram_read {k : Nat} (other : workRamOffset a ≠ some k) : t.wram.read k = s.wram.read k := by
  cases stored with
  | work range =>
    rw [workRamOffset_work range, ne_eq, Option.some_inj] at other
    exact Memory.read_write_other s.wram v other
  | echo range =>
    rw [workRamOffset_echo range, ne_eq, Option.some_inj] at other
    exact Memory.read_write_other s.wram v other
  | _ => rfl

theorem Stored.ppu_eq (outside : inPpuWindow a = false) : t.ppu = s.ppu := by
  rw [inPpuWindow, decide_eq_false_iff_not] at outside
  cases stored with
  | vram range => exact absurd (.inl range) outside
  | ppuReg range => exact absurd (.inr range) outside
  | _ => rfl

theorem Stored.ie_eq (other : a ≠ 0xFFFF) : t.ie = s.ie := by
  cases stored with
  | ie => exact absurd rfl other
  | _ => rfl

theorem Stored.joypSel_eq (other : a ≠ 0xFF00) : t.joypSel = s.joypSel := by
  cases stored with
  | joyp => exact absurd rfl other
  | _ => rfl

theorem Stored.serialOut_eq (other : a ≠ 0xFF01) : t.serialOut = s.serialOut := by
  cases stored with
  | sb => exact absurd rfl other
  | _ => rfl

theorem Stored.div_eq (other : a ≠ 0xFF04) : t.div = s.div := by
  cases stored with
  | div => exact absurd rfl other
  | _ => rfl

theorem Stored.tima_eq (other : a ≠ 0xFF05) : t.tima = s.tima := by
  cases stored with
  | tima => exact absurd rfl other
  | _ => rfl

theorem Stored.tma_eq (other : a ≠ 0xFF06) : t.tma = s.tma := by
  cases stored with
  | tma => exact absurd rfl other
  | _ => rfl

theorem Stored.tac_eq (other : a ≠ 0xFF07) : t.tac = s.tac := by
  cases stored with
  | tac => exact absurd rfl other
  | _ => rfl

theorem Stored.ifl_eq (other : a ≠ 0xFF0F) : t.ifl = s.ifl := by
  cases stored with
  | ifReg => exact absurd rfl other
  | _ => rfl

theorem Stored.bootOff_eq (other : a ≠ 0xFF50) : t.bootOff = s.bootOff := by
  cases stored with
  | bootOff => exact absurd rfl other
  | _ => rfl

end

/-! ## What a store reaches -/

section

variable {a x : Word}

theorem storeReaches_window (stored : inPpuWindow a = true) : storeReaches a x = inPpuWindow x := by
  rw [storeReaches, if_pos stored]

theorem storeReaches_latch : storeReaches 0xFF50 x = decide (x = 0xFF50 ∨ x.toNat < 0x0100) :=
  rfl

/-- A store reaches the byte it names (20_memory.md R64). -/
theorem storeReaches_self (x : Word) : storeReaches x x = true := by
  unfold storeReaches
  split
  · assumption
  · split
    · simp_all
    · split <;> simp_all

/-- A store to a byte of work RAM reaches the byte and its echo (20_memory.md R71). -/
theorem storeReaches_work {k : Nat} (stored : workRamOffset a = some k) :
    storeReaches a x = decide (workRamOffset x = some k) := by
  have range : 0xC000 ≤ a.toNat ∧ a.toNat < 0xFE00 := by
    unfold workRamOffset at stored
    split at stored
    · omega
    · split at stored
      · omega
      · nomatch stored
  have outside : ¬ inPpuWindow a = true := by
    rw [inPpuWindow, decide_eq_true_eq]
    omega
  have noLatch : a ≠ 0xFF50 := by
    rintro rfl
    exact absurd range (by decide)
  rw [storeReaches, if_neg outside, if_neg noLatch, stored]

variable (unreached : storeReaches a x = false)
include unreached

theorem ne_of_unreached : a ≠ x := by
  rintro rfl
  exact absurd unreached (by simp [storeReaches_self])

theorem toNat_ne_of_unreached : a.toNat ≠ x.toNat :=
  fun same => ne_of_unreached unreached (BitVec.eq_of_toNat_eq same)

theorem outside_window_of_unreached (read : inPpuWindow x = true) : inPpuWindow a = false := by
  by_contra stored
  rw [storeReaches_window (by simpa using stored), read] at unreached
  nomatch unreached

theorem ne_latch_of_unreached (read : x.toNat < 0x0100) : a ≠ 0xFF50 := by
  rintro rfl
  rw [storeReaches_latch, decide_eq_false_iff_not] at unreached
  exact unreached (.inr read)

theorem workRamOffset_ne_of_unreached {k : Nat} (read : workRamOffset x = some k) : workRamOffset a ≠ some k := by
  intro stored
  rw [storeReaches_work stored, decide_eq_false_iff_not] at unreached
  exact unreached read

end

/-- The JOYP byte is made of the select bits and the inputs (20_memory.md R81). -/
theorem joypByte_congr {s t : State} (sel : t.joypSel = s.joypSel) (joy : t.joy = s.joy) : t.joypByte = s.joypByte := by
  unfold State.joypByte State.dpadSelected State.buttonsSelected
  rw [sel, joy]

section

variable (s : State) {a x : Word} (v : Byte) (unreached : storeReaches a x = false)
include unreached

theorem fetchIo_memWrite (page : 0xFF00 ≤ x.toNat ∧ x.toNat < 0xFF80) :
    (s.memWrite a v).fetchIo x = s.fetchIo x := by
  have stored := memWrite_stored s a v
  have other := ne_of_unreached unreached
  have apart := toNat_ne_of_unreached unreached
  rcases ioReg_cases x with ⟨hr, k⟩ | ⟨hr, k⟩ | ⟨hr, k⟩ | ⟨hr, k⟩ | ⟨hr, k⟩ | ⟨hr, k⟩ | ⟨hr, k⟩ | ⟨hr, k⟩ | ⟨hr, k⟩ | ⟨hr, k⟩ |
    ⟨hr, k⟩ <;> simp only [State.fetchIo, hr]
  · obtain rfl := (ioReg_joyp x).mp hr
    exact joypByte_congr (stored.joypSel_eq other) (memWrite_joy s _ v)
  · exact memWrite_io_read s a v 0x01 (by omega)
  · exact memWrite_io_read s a v 0x02 (by omega)
  · obtain rfl := (ioReg_div x).mp hr
    rw [stored.div_eq other]
  · obtain rfl := (ioReg_tima x).mp hr
    rw [stored.tima_eq other]
  · obtain rfl := (ioReg_tma x).mp hr
    rw [stored.tma_eq other]
  · obtain rfl := (ioReg_tac x).mp hr
    rw [stored.tac_eq other]
  · obtain rfl := (ioReg_ifReg x).mp hr
    rw [stored.ifl_eq other]
  · rw [stored.ppu_eq (outside_window_of_unreached unreached (decide_eq_true (.inr k)))]
  · obtain rfl := (ioReg_bootOff x).mp hr
    rw [stored.bootOff_eq other]
  · exact memWrite_io_read s a v _ (by omega)

/-- A read the store does not reach gives what it gave (20_memory.md R64, R99, R100). -/
theorem memRead_memWrite_other : (s.memWrite a v).memRead x = s.memRead x := by
  have stored := memWrite_stored s a v
  have other := ne_of_unreached unreached
  have apart := toNat_ne_of_unreached unreached
  have work {k : Nat} (read : workRamOffset x = some k) : (s.memWrite a v).wram.read k = s.wram.read k :=
    stored.wram_read (workRamOffset_ne_of_unreached unreached read)
  rcases classify_cases x with ⟨hc, lo, hi⟩ | ⟨hc, lo, hi⟩ | ⟨hc, lo, hi⟩ | ⟨hc, lo, hi⟩ | ⟨hc, lo, hi⟩ | ⟨hc, lo, hi⟩ |
    ⟨hc, lo, hi⟩ | ⟨hc, lo, hi⟩ | ⟨hc, lo, hi⟩ | ⟨hc, lo, hi⟩ | ⟨hc, lo, hi⟩ | ⟨hc, lo, hi⟩ <;>
    simp only [State.memRead, hc]
  · rw [memWrite_boot, memWrite_rom_read s a v _ (.inl apart)]
    by_cases low : x.toNat < 0x0100
    · rw [stored.bootOff_eq (ne_latch_of_unreached unreached low)]
    · rw [if_neg (fun h => low h.1), if_neg (fun h => low h.1)]
  · exact memWrite_rom_read s a v _ (.inl apart)
  · rw [stored.ppu_eq (outside_window_of_unreached unreached (decide_eq_true (.inl ⟨lo, hi⟩)))]
  · exact stored.xram_read (by omega)
  · exact work (workRamOffset_work (by omega))
  · exact work (workRamOffset_work (by omega))
  · exact work (workRamOffset_echo (by omega))
  · exact stored.oam_read (by omega)
  · exact fetchIo_memWrite s v unreached ⟨lo, hi⟩
  · exact stored.hram_read (by omega)
  · exact stored.ie_eq (fun same => other (same.trans ((classify_interruptEnable x).mp hc).symm))

end

/-- A byte store leaves all it does not reach (20_memory.md R64, R80, R99, R100). -/
theorem memWrite_untouched (s : State) (a : Word) (v : Byte) : Untouched [a] s (s.memWrite a v) := by
  have stored := memWrite_stored s a v
  have ne {b : Word} (absent : b ∉ [a]) : a ≠ b := fun same => absent (List.mem_singleton.mpr same.symm)
  exact
    { reads := fun x unreached => memRead_memWrite_other s v (unreached a (List.mem_singleton_self a))
      rom := fun i h => memWrite_rom_read s a v i (h.imp_left (· a (List.mem_singleton_self a)))
      io := fun i h => memWrite_io_read s a v i (h a (List.mem_singleton_self a))
      ie := fun h => stored.ie_eq (ne h)
      ifl := fun h => stored.ifl_eq (ne h)
      div := fun h => stored.div_eq (ne h)
      tima := fun h => stored.tima_eq (ne h)
      tma := fun h => stored.tma_eq (ne h)
      tac := fun h => stored.tac_eq (ne h)
      joypSel := fun h => stored.joypSel_eq (ne h)
      bootOff := fun h => stored.bootOff_eq (ne h)
      serialOut := fun h => stored.serialOut_eq (ne h)
      ppu := fun h => stored.ppu_eq (h a (List.mem_singleton_self a))
      boot := memWrite_boot s a v
      joy := memWrite_joy s a v
      lastTimerUpdate := memWrite_lastTimerUpdate s a v
      faulted := memWrite_faulted s a v
      params := memWrite_params s a v
      joyInput := memWrite_joyInput s a v }

/-- Settles O15: field by field, and read by read by the region of the address read. -/
theorem storeReachesOnly : Obligations.StoreReachesOnly := fun s a v =>
  ⟨memWrite_untouched s a v, memWrite_reg s a v, memWrite_flags s a v, memWrite_sp s a v, memWrite_pc s a v,
    memWrite_ime s a v, memWrite_halted s a v, memWrite_cycles s a v⟩

/-! ## What a read sees of the store to its own address -/

/-- Settles O14: in each region that is storage, the array's own read-back. -/
theorem storageReadsBack : Obligations.StorageReadsBack := by
  intro s a v arrays storage
  rcases classify_cases a with ⟨hc, -, -⟩ | ⟨hc, -, -⟩ | ⟨hc, -, -⟩ | ⟨hc, -, -⟩ | ⟨hc, -, -⟩ | ⟨hc, -, -⟩ | ⟨hc, -, -⟩ |
    ⟨hc, -, -⟩ | ⟨hc, -, -⟩ | ⟨hc, -, -⟩ | ⟨hc, -, -⟩ | ⟨hc, -, -⟩ <;>
    simp only [State.isStorage, hc] at storage <;> simp only [State.memWrite, State.memRead, hc]
  · have noOverlay : ¬ (a.toNat < 0x0100 ∧ s.bootOff = false) := by
      rintro ⟨low, latch⟩
      simp [latch] at storage
      omega
    rw [setRom_bootOff, if_neg noOverlay]
    exact Memory.read_write_same s.rom _ v arrays.rom.1
  · exact Memory.read_write_same s.rom _ v arrays.rom.1
  · nomatch storage
  · exact Memory.read_write_same s.xram _ v arrays.xram.1
  · exact Memory.read_write_same s.wram _ v arrays.wram.1
  · exact Memory.read_write_same s.wram _ v arrays.wram.1
  · exact Memory.read_write_same s.wram _ v arrays.wram.1
  · exact Memory.read_write_same s.oam _ v arrays.oam.1
  · nomatch storage
  · simp only [Bool.or_eq_true, beq_iff_eq] at storage
    rcases storage with (plain | sb) | sc
    · simp only [State.writeIo, State.fetchIo, plain]
      exact Memory.read_write_same s.io _ v arrays.io.1
    · simp only [State.writeIo, State.fetchIo, sb]
      exact Memory.read_write_same s.io _ v arrays.io.1
    · simp only [State.writeIo, State.fetchIo, sc]
      exact Memory.read_write_same s.io _ v arrays.io.1
  · exact Memory.read_write_same s.hram _ v arrays.hram.1
  · nomatch storage

/-- Settles O16: the echo and the byte 0x2000 below it are one byte of work RAM; the unusable region is no storage. -/
theorem echoAndUnusable : Obligations.EchoAndUnusable := by
  refine ⟨fun s a v lo hi => ?_, fun s a v lo hi => ?_⟩
  · have below : (a - 0x2000).toNat = a.toNat - 0x2000 := BitVec.toNat_sub_of_le (by simpa [BitVec.le_def] using by omega)
    have same : (a - 0x2000).toNat - 0xC000 = a.toNat - 0xE000 := by omega
    rw [memRead_echo s a ⟨lo, hi⟩, memRead_work s (a - 0x2000) (by omega), memWrite_echo s a v ⟨lo, hi⟩,
      memWrite_work s (a - 0x2000) v (by omega), same]
    exact ⟨rfl, rfl⟩
  · have region := (classify_unusable a).mpr ⟨lo, hi⟩
    simp only [State.memRead, State.memWrite, region, and_self]

/-! ## The registers -/

/-- A field of a byte or word is its number shifted down and truncated. -/
theorem extractLsb'_eq_ofNat {w : Nat} (v : BitVec w) (start len : Nat) :
    v.extractLsb' start len = BitVec.ofNat len (v.toNat / 2 ^ start) := by
  rw [← Nat.shiftRight_eq_div_pow]
  rfl

/-- Settles O17: each register's row of the dispatch table, and the divider's upper byte as a quotient. -/
theorem timerAndIfRegisters : Obligations.TimerAndIfRegisters :=
  fun s _ => ⟨extractLsb'_eq_ofNat s.div 8 8, rfl, rfl, rfl, rfl, rfl, rfl, rfl⟩

theorem getLsbD_nibble (b3 b2 b1 b0 : Bool) (i : Nat) :
    (nibble b3 b2 b1 b0).getLsbD i =
      (decide (i = 3) && b3 || decide (i = 2) && b2 || decide (i = 1) && b1 || decide (i = 0) && b0) := by
  simp only [nibble, BitVec.getLsbD_or, getLsbD_bit8_shiftLeft, getLsbD_bit8, Nat.reduceLT]

/-- The lines of an unselected group are all 1 (20_memory.md R81). -/
theorem joypGroup_eq (selected b3 b2 b1 b0 : Bool) :
    (if selected then nibble b3 b2 b1 b0 else 0x0F) =
      nibble (!selected || b3) (!selected || b2) (!selected || b1) (!selected || b0) := by
  cases selected with
  | false => rw [if_neg Bool.false_ne_true]; simp only [Bool.not_false, Bool.true_or]; rfl
  | true => simp

theorem nibble_and_nibble (a3 a2 a1 a0 b3 b2 b1 b0 : Bool) :
    nibble a3 a2 a1 a0 &&& nibble b3 b2 b1 b0 = nibble (a3 && b3) (a2 && b2) (a1 && b1) (a0 && b0) := by
  apply BitVec.eq_of_getLsbD_eq
  intro i hi
  simp only [BitVec.getLsbD_and, getLsbD_nibble]
  interval_cases i <;> simp

/-- The JOYP byte: a line is 0 when the input it stands for in a selected group is pressed (20_memory.md R81). -/
theorem joypByte_eq (s : State) :
    s.joypByte =
      0xC0 ||| (s.joypSel.setWidth 8 <<< 4) |||
        nibble ((s.joypSel.getLsbD 0 || !s.joy.down) && (s.joypSel.getLsbD 1 || !s.joy.start))
          ((s.joypSel.getLsbD 0 || !s.joy.up) && (s.joypSel.getLsbD 1 || !s.joy.select))
          ((s.joypSel.getLsbD 0 || !s.joy.left) && (s.joypSel.getLsbD 1 || !s.joy.b))
          ((s.joypSel.getLsbD 0 || !s.joy.right) && (s.joypSel.getLsbD 1 || !s.joy.a)) := by
  rw [State.joypByte]
  simp only [joypGroup_eq, nibble_and_nibble]
  simp only [State.dpadSelected, State.buttonsSelected, Bool.not_not]

/-- The upper half of the JOYP byte holds no line. -/
theorem joyp_upper (sel : BitVec 2) (b3 b2 b1 b0 : Bool) :
    (0xC0 ||| (sel.setWidth 8 <<< 4) ||| nibble b3 b2 b1 b0) &&& 0xF0 = (0xC0 : Byte) ||| (sel.setWidth 8 <<< 4) := by
  revert sel b3 b2 b1 b0
  decide

/-- The lower half holds the lines. -/
theorem joyp_line (sel : BitVec 2) (b3 b2 b1 b0 : Bool) {i : Nat} (low : i < 4) :
    ((0xC0 : Byte) ||| (sel.setWidth 8 <<< 4) ||| nibble b3 b2 b1 b0).getLsbD i = (nibble b3 b2 b1 b0).getLsbD i := by
  have top : (0xC0 : Byte).getLsbD i = false := by interval_cases i <;> rfl
  have select : (sel.setWidth 8 <<< 4).getLsbD i = false := by simp [BitVec.getLsbD_shiftLeft, low]
  rw [BitVec.getLsbD_or, BitVec.getLsbD_or, top, select]
  rfl

/-- The boot latch only ever goes on (20_memory.md R92). -/
theorem memWrite_latch (s : State) (v : Byte) : s.memWrite 0xFF50 v = if v = 0 then s else s.setBootOff true := by
  have stored : s.memWrite 0xFF50 v = s.setBootOff (s.bootOff || v != 0) := rfl
  rw [stored]
  by_cases zero : v = 0
  · simp only [zero, bne_self_eq_false, Bool.or_false, if_true]
    rfl
  · rw [if_neg zero, bne_iff_ne.mpr zero, Bool.or_true]

theorem ieReadOr_eq (s : State) : s.ieReadOr = if s.params.ieReadOr = .topThreeBits then 0xE0 else 0x00 := by
  unfold State.ieReadOr
  cases s.params.ieReadOr <;> rfl

/-- Settles O18: the JOYP byte half by half, and each other register's row of the dispatch table. -/
theorem joypadSerialLatchRegisters : Obligations.JoypadSerialLatchRegisters := by
  intro s v
  have joyp : s.memRead 0xFF00 = s.joypByte := rfl
  have ie : s.memWrite 0xFFFF v = s.setIe (v ||| s.ieReadOr) := rfl
  rw [joyp, joypByte_eq, ie, ieReadOr_eq]
  refine ⟨joyp_upper .., ?_, ?_, ?_, ?_, ?_, rfl, rfl, rfl, rfl, rfl, rfl, rfl, memWrite_latch s v, rfl, rfl⟩
  · exact (joyp_line _ _ _ _ _ (by decide)).trans (by rw [getLsbD_nibble]; simp)
  · exact (joyp_line _ _ _ _ _ (by decide)).trans (by rw [getLsbD_nibble]; simp)
  · exact (joyp_line _ _ _ _ _ (by decide)).trans (by rw [getLsbD_nibble]; simp)
  · exact (joyp_line _ _ _ _ _ (by decide)).trans (by rw [getLsbD_nibble]; simp)
  · exact congrArg s.setJoypSel (extractLsb'_eq_ofNat v 4 2)

end Sys2Proof.Machine
end

section
/-! Frames (the terms of Safety.lean): one rule for each state operation that says what it leaves alone, and from these one rule for
each shared operation of 40_load8.md to 47_system.md. -/

namespace Sys2Proof.Machine

/-! ## Rows of byte stores, and the CPU's own fields -/

/-- The stores of a list, first to last. -/
def State.storeAll (s : State) (stores : List (Word × Byte)) : State :=
  stores.foldl (fun m x => m.memWrite x.1 x.2) s

/-- What every byte store keeps, a row of them keeps. -/
theorem storeAll_induction {P : State → Prop} (store : ∀ m a v, P m → P (m.memWrite a v)) {s : State} (start : P s)
    (stores : List (Word × Byte)) : P (s.storeAll stores) := by
  induction stores generalizing s with
  | nil => exact start
  | cons x rest ih => exact ih (store s x.1 x.2 start)

theorem storeAll_append (s : State) (xs ys : List (Word × Byte)) : s.storeAll (xs ++ ys) = (s.storeAll xs).storeAll ys :=
  List.foldl_append

/-- `m` with the fields that are the CPU's own, and at no address, as in `t`. -/
def State.withCpuOf (m t : State) : State :=
  { m with regs := t.regs, flags := t.flags, sp := t.sp, pc := t.pc, ime := t.ime, halted := t.halted, cycles := t.cycles }

theorem withCpuOf_eq (m t : State) :
    m.withCpuOf t =
      ((((((m.setRegs t.regs).setFlags t.flags).setSp t.sp).setPc t.pc).setIme t.ime).setHalted t.halted).setCycles
        t.cycles :=
  rfl

theorem memWrite_withCpuOf (m t : State) (a : Word) (v : Byte) :
    (m.withCpuOf t).memWrite a v = (m.memWrite a v).withCpuOf t := by
  simp only [withCpuOf_eq, memWrite_setRegs, memWrite_setFlags, memWrite_setSp, memWrite_setPc, memWrite_setIme,
    memWrite_setHalted, memWrite_setCycles]

theorem storeAll_withCpuOf (m t : State) (stores : List (Word × Byte)) :
    (m.withCpuOf t).storeAll stores = (m.storeAll stores).withCpuOf t := by
  induction stores generalizing m with
  | nil => rfl
  | cons x rest ih =>
    have first : (m.withCpuOf t).storeAll (x :: rest) = ((m.withCpuOf t).memWrite x.1 x.2).storeAll rest := rfl
    rw [first, memWrite_withCpuOf, ih]
    rfl

/-- One row of stores after another, with changes of the CPU's own fields between and after them. -/
theorem memory_trans {s t u : State} {xs ys : List (Word × Byte)} (first : t = (s.storeAll xs).withCpuOf t)
    (second : u = (t.storeAll ys).withCpuOf u) : u = (s.storeAll (xs ++ ys)).withCpuOf u := by
  have joined : t.storeAll ys = (s.storeAll (xs ++ ys)).withCpuOf t := by
    rw [storeAll_append, ← storeAll_withCpuOf, ← first]
  calc
    u = (t.storeAll ys).withCpuOf u := second
    _ = ((s.storeAll (xs ++ ys)).withCpuOf t).withCpuOf u := by rw [joined]
    _ = (s.storeAll (xs ++ ys)).withCpuOf u := rfl

/-- A byte store is a row of one, and leaves the CPU's own fields. -/
theorem memWrite_eq_storeAll (s : State) (a : Word) (v : Byte) :
    s.memWrite a v = (s.storeAll [(a, v)]).withCpuOf (s.memWrite a v) :=
  rfl

/-! ## Untouched -/

theorem Untouched.refl (s : State) : Untouched [] s s := by
  constructor <;> intros <;> rfl

theorem Untouched.trans {xs ys : List Word} {s t u : State} (first : Untouched xs s t) (second : Untouched ys t u) :
    Untouched (xs ++ ys) s u := by
  have left {p : Word → Prop} (h : ∀ a ∈ xs ++ ys, p a) : ∀ a ∈ xs, p a := fun a ha => h a (List.mem_append_left ys ha)
  have right {p : Word → Prop} (h : ∀ a ∈ xs ++ ys, p a) : ∀ a ∈ ys, p a := fun a ha => h a (List.mem_append_right xs ha)
  have absent {b : Word} (h : b ∉ xs ++ ys) : b ∉ xs ∧ b ∉ ys := by simpa using h
  exact
    { reads := fun x h => (second.reads x (right h)).trans (first.reads x (left h))
      rom := fun i h => (second.rom i (h.imp_left right)).trans (first.rom i (h.imp_left left))
      io := fun i h => (second.io i (right h)).trans (first.io i (left h))
      ie := fun h => (second.ie (absent h).2).trans (first.ie (absent h).1)
      ifl := fun h => (second.ifl (absent h).2).trans (first.ifl (absent h).1)
      div := fun h => (second.div (absent h).2).trans (first.div (absent h).1)
      tima := fun h => (second.tima (absent h).2).trans (first.tima (absent h).1)
      tma := fun h => (second.tma (absent h).2).trans (first.tma (absent h).1)
      tac := fun h => (second.tac (absent h).2).trans (first.tac (absent h).1)
      joypSel := fun h => (second.joypSel (absent h).2).trans (first.joypSel (absent h).1)
      bootOff := fun h => (second.bootOff (absent h).2).trans (first.bootOff (absent h).1)
      serialOut := fun h => (second.serialOut (absent h).2).trans (first.serialOut (absent h).1)
      ppu := fun h => (second.ppu (right h)).trans (first.ppu (left h))
      boot := second.boot.trans first.boot
      joy := second.joy.trans first.joy
      lastTimerUpdate := second.lastTimerUpdate.trans first.lastTimerUpdate
      faulted := second.faulted.trans first.faulted
      params := second.params.trans first.params
      joyInput := second.joyInput.trans first.joyInput }

/-- The CPU's own fields are no part of what `Untouched` speaks of. -/
theorem untouched_withCpuOf (m t : State) : Untouched [] m (m.withCpuOf t) := by
  constructor <;> intros <;> rfl

theorem untouched_storeAll (s : State) (stores : List (Word × Byte)) :
    Untouched (stores.map Prod.fst) s (s.storeAll stores) := by
  induction stores generalizing s with
  | nil => exact .refl s
  | cons x rest ih => exact (memWrite_untouched s x.1 x.2).trans (ih (s.memWrite x.1 x.2))

theorem untouched_of_memory {s t : State} {stores : List (Word × Byte)} (memory : t = (s.storeAll stores).withCpuOf t) :
    Untouched (stores.map Prod.fst) s t := by
  rw [memory, ← List.append_nil (stores.map Prod.fst)]
  exact (untouched_storeAll s stores).trans (untouched_withCpuOf _ t)

/-! ## What a state operation keeps -/

/-- The flags of `g` are those of `f` but where `may` marks a change. -/
def FlagsWithin (may f g : Flags) : Prop :=
  (may.z = false → g.z = f.z) ∧ (may.n = false → g.n = f.n) ∧ (may.h = false → g.h = f.h) ∧ (may.c = false → g.c = f.c)

/-- From `s` to `t` the byte stores listed, and changes of the CPU's own fields that the footprint allows. -/
structure Kept (fp : Footprint) (stores : List (Word × Byte)) (s t : State) : Prop where
  memory : t = (s.storeAll stores).withCpuOf t
  regs : ∀ r, r ∉ fp.regs → t.reg r = s.reg r
  flags : FlagsWithin fp.flags s.flags t.flags
  sp : fp.sp = false → t.sp = s.sp
  flow : fp.flow = false → t.pc = s.pc ∧ t.cycles = s.cycles
  control : fp.control = false → t.ime = s.ime ∧ t.halted = s.halted

theorem FlagsWithin.refl (may f : Flags) : FlagsWithin may f f :=
  ⟨fun _ => rfl, fun _ => rfl, fun _ => rfl, fun _ => rfl⟩

theorem FlagsWithin.trans {may f g k : Flags} (first : FlagsWithin may f g) (second : FlagsWithin may g k) :
    FlagsWithin may f k := by
  obtain ⟨z, n, h, c⟩ := first
  obtain ⟨z', n', h', c'⟩ := second
  exact ⟨fun e => (z' e).trans (z e), fun e => (n' e).trans (n e), fun e => (h' e).trans (h e),
    fun e => (c' e).trans (c e)⟩

theorem flagsWithin_all (f g : Flags) : FlagsWithin allFlags f g :=
  ⟨nofun, nofun, nofun, nofun⟩

theorem flagsWithin_but_c {f g : Flags} (c : g.c = f.c) : FlagsWithin { allFlags with c := false } f g :=
  ⟨nofun, nofun, nofun, fun _ => c⟩

theorem flagsWithin_but_n {f g : Flags} (n : g.n = f.n) : FlagsWithin { allFlags with n := false } f g :=
  ⟨nofun, fun _ => n, nofun, nofun⟩

theorem flagsWithin_but_z {f g : Flags} (z : g.z = f.z) : FlagsWithin { allFlags with z := false } f g :=
  ⟨fun _ => z, nofun, nofun, nofun⟩

theorem flagsWithin_but_z_c {f g : Flags} (z : g.z = f.z) (c : g.c = f.c) :
    FlagsWithin { allFlags with z := false, c := false } f g :=
  ⟨fun _ => z, nofun, nofun, fun _ => c⟩

section

variable {fp : Footprint} {s : State}

theorem Kept.refl (fp : Footprint) (s : State) : Kept fp [] s s :=
  ⟨rfl, fun _ _ => rfl, .refl _ _, fun _ => rfl, fun _ => ⟨rfl, rfl⟩, fun _ => ⟨rfl, rfl⟩⟩

theorem Kept.trans {xs ys : List (Word × Byte)} {t u : State} (first : Kept fp xs s t) (second : Kept fp ys t u) :
    Kept fp (xs ++ ys) s u where
  memory := memory_trans first.memory second.memory
  regs r h := (second.regs r h).trans (first.regs r h)
  flags := first.flags.trans second.flags
  sp h := (second.sp h).trans (first.sp h)
  flow h := ⟨(second.flow h).1.trans (first.flow h).1, (second.flow h).2.trans (first.flow h).2⟩
  control h := ⟨(second.control h).1.trans (first.control h).1, (second.control h).2.trans (first.control h).2⟩

theorem kept_memWrite (a : Word) (v : Byte) : Kept fp [(a, v)] s (s.memWrite a v) where
  memory := memWrite_eq_storeAll s a v
  regs r _ := memWrite_reg s a v r
  flags := memWrite_flags s a v ▸ .refl _ _
  sp _ := memWrite_sp s a v
  flow _ := ⟨memWrite_pc s a v, memWrite_cycles s a v⟩
  control _ := ⟨memWrite_ime s a v, memWrite_halted s a v⟩

theorem kept_setReg {r : Reg8} (v : Byte) (allowed : r ∈ fp.regs) : Kept fp [] s (s.setReg r v) :=
  { Kept.refl fp s with
    memory := rfl
    regs := fun _ outside => reg_setReg_other s v (fun same => outside (same ▸ allowed)) }

theorem kept_setFlags {f : Flags} (within : FlagsWithin fp.flags s.flags f) : Kept fp [] s (s.setFlags f) :=
  { Kept.refl fp s with memory := rfl, flags := within }

theorem kept_setSp (v : Word) (allowed : fp.sp = true) : Kept fp [] s (s.setSp v) :=
  { Kept.refl fp s with memory := rfl, sp := fun no => absurd (allowed.symm.trans no) (by decide) }

theorem kept_setPc (v : Word) (allowed : fp.flow = true) : Kept fp [] s (s.setPc v) :=
  { Kept.refl fp s with memory := rfl, flow := fun no => absurd (allowed.symm.trans no) (by decide) }

theorem kept_charge (n : Nat) (allowed : fp.flow = true) : Kept fp [] s (s.charge n) :=
  { Kept.refl fp s with memory := rfl, flow := fun no => absurd (allowed.symm.trans no) (by decide) }

theorem kept_setIme (b : Bool) (allowed : fp.control = true) : Kept fp [] s (s.setIme b) :=
  { Kept.refl fp s with memory := rfl, control := fun no => absurd (allowed.symm.trans no) (by decide) }

theorem kept_setHalted (b : Bool) (allowed : fp.control = true) : Kept fp [] s (s.setHalted b) :=
  { Kept.refl fp s with memory := rfl, control := fun no => absurd (allowed.symm.trans no) (by decide) }

/-- Writing a 16-bit register writes its 8-bit ones, SP, or A and the flags. -/
theorem kept_setPair (rr : Reg16) (v : Word) (regs : ∀ r ∈ pairRegs rr, r ∈ fp.regs) (sp : rr = .sp → fp.sp = true)
    (flags : rr = .af → fp.flags = allFlags) : Kept fp [] s (s.setPair rr v) := by
  cases rr with
  | af =>
    have free : FlagsWithin fp.flags s.flags (unpackFlags (loByte v)) := flags rfl ▸ flagsWithin_all _ _
    exact (kept_setReg _ (regs _ (by simp [pairRegs]))).trans (kept_setFlags free)
  | bc => exact (kept_setReg _ (regs .b (by simp [pairRegs]))).trans (kept_setReg _ (regs .c (by simp [pairRegs])))
  | de => exact (kept_setReg _ (regs .d (by simp [pairRegs]))).trans (kept_setReg _ (regs .e (by simp [pairRegs])))
  | hl => exact (kept_setReg _ (regs .h (by simp [pairRegs]))).trans (kept_setReg _ (regs .l (by simp [pairRegs])))
  | sp => exact kept_setSp v (sp rfl)

/-- The byte store that writing an 8-bit operand makes. -/
def operandCells (m : Operand) (v : Byte) (s : State) : List (Word × Byte) :=
  match m with
  | .reg _ => []
  | .indHl => [(s.hl, v)]

theorem operandCells_addresses (m : Operand) (v : Byte) (s : State) :
    (operandCells m v s).map Prod.fst = operandStores m s := by
  cases m <;> rfl

theorem setOperand_flags (s : State) (m : Operand) (v : Byte) : (s.setOperand m v).flags = s.flags := by
  cases m with
  | reg r => rfl
  | indHl => exact memWrite_flags s s.hl v

theorem kept_setOperand (m : Operand) (v : Byte) (allowed : ∀ r ∈ operandRegs m, r ∈ fp.regs) :
    Kept fp (operandCells m v s) s (s.setOperand m v) := by
  cases m with
  | reg r => exact kept_setReg v (allowed r (by simp [operandRegs]))
  | indHl => exact kept_memWrite s.hl v

/-- The two byte stores of a push. -/
def pushCells (v : Word) (s : State) : List (Word × Byte) :=
  [(s.sp - 1, hiByte v), (s.sp - 2, loByte v)]

theorem kept_push16 (v : Word) (allowed : fp.sp = true) : Kept fp (pushCells v s) s (s.push16 v) := by
  rw [push16_eq]
  exact ((kept_memWrite _ _).trans (kept_memWrite _ _)).trans (kept_setSp _ allowed)

theorem kept_popPc (sp : fp.sp = true) (flow : fp.flow = true) : Kept fp [] s s.popPc := by
  rw [popPc_eq]
  exact (kept_setSp _ sp).trans (kept_setPc _ flow)

end

/-! ## The shared operations -/

/-- `r` is a completion from `s` that makes the byte stores listed and keeps to the footprint. -/
def Does (fp : Footprint) (stores : List (Word × Byte)) (s : State) (r : Result) : Prop :=
  ∃ t, r = .next t ∧ Kept fp stores s t

theorem Kept.does {fp : Footprint} {stores : List (Word × Byte)} {s t : State} (kept : Kept fp stores s t) :
    Does fp stores s (.next t) :=
  ⟨t, rfl, kept⟩

section

variable (s : State)

/-! ### 8-bit loads (40_load8.md) -/

theorem does_loadOperand (d : Operand) (src : Source) :
    Does (dataFootprint (operandRegs d) noFlags) (operandCells d (s.src8 src) s) s (loadOperand d src s) :=
  (kept_setOperand d _ (fun _ h => h)).does

theorem does_loadAFrom (addr : Word) : Does (dataFootprint [.a] noFlags) [] s (loadAFrom addr s) :=
  (kept_setReg _ (by simp [dataFootprint])).does

theorem does_storeATo (addr : Word) : Does (dataFootprint [] noFlags) [(addr, s.reg .a)] s (storeATo addr s) :=
  (kept_memWrite _ _).does

theorem does_storeAStep (step : Word) :
    Does (dataFootprint [.h, .l] noFlags) [(s.hl, s.reg .a)] s (storeAStep step s) :=
  ((kept_memWrite _ _).trans (kept_setPair .hl _ (by simp [pairRegs, dataFootprint]) nofun nofun)).does

theorem does_loadAStep (step : Word) : Does (dataFootprint [.a, .h, .l] noFlags) [] s (loadAStep step s) :=
  ((kept_setReg _ (by simp [dataFootprint])).trans
    (kept_setPair .hl _ (by simp [pairRegs, dataFootprint]) nofun nofun)).does

/-! ### 16-bit loads and the stack (41_load16_stack.md) -/

/-- The footprint of a write to a 16-bit register other than AF. -/
def pairFootprint (p : Pair) : Footprint :=
  { dataFootprint (pairRegs (pairReg p)) noFlags with sp := decide (p = .sp) }

theorem kept_setPair_pair {s : State} (p : Pair) (v : Word) : Kept (pairFootprint p) [] s (s.setPair (pairReg p) v) := by
  refine kept_setPair _ v (fun _ h => h) (fun isSp => ?_) (fun isAf => absurd isAf (pairReg_ne_af p))
  cases p with
  | sp => rfl
  | _ => nomatch isSp

theorem does_loadPair (p : Pair) (nn : Word) : Does (pairFootprint p) [] s (loadPair p nn s) :=
  (kept_setPair_pair p nn).does

theorem does_storeSp (addr : Word) :
    Does (dataFootprint [] noFlags) [(addr, loByte s.sp), (addr + 1, hiByte s.sp)] s (storeSp addr s) :=
  ((kept_memWrite _ _).trans (kept_memWrite _ _)).does

theorem does_loadHlSpPlus (e : Byte) : Does (dataFootprint [.h, .l] allFlags) [] s (loadHlSpPlus e s) :=
  ((kept_setPair .hl _ (by simp [pairRegs, dataFootprint]) nofun nofun).trans
    (kept_setFlags (flagsWithin_all _ _))).does

theorem does_pushPair (p : StackPair) :
    Does { dataFootprint [] noFlags with sp := true } (pushCells (s.pair (stackPairReg p)) s) s (pushPair p s) :=
  (kept_push16 _ rfl).does

theorem does_popPair (p : StackPair) :
    Does { dataFootprint (pairRegs (stackPairReg p)) (if p = .af then allFlags else noFlags) with sp := true } [] s
      (popPair p s) := by
  rw [popPair, pop16_eq]
  refine ((kept_setSp _ rfl).trans (kept_setPair _ _ (fun _ h => h) (fun _ => rfl) (fun isAf => ?_))).does
  cases p with
  | af => rfl
  | _ => nomatch isAf

/-! ### Arithmetic and logic (42_alu8.md, 43_alu16.md, 44_rotate_shift.md section 1) -/

theorem does_aluOperation (op : AluOp) (src : Source) :
    Does (dataFootprint [.a] allFlags) [] s (aluOperation op src s) :=
  ((kept_setReg _ (by simp [dataFootprint])).trans (kept_setFlags (flagsWithin_all _ _))).does

/-- CP keeps A (42_alu8.md R259). -/
theorem does_cp (src : Source) : Does (dataFootprint [] allFlags) [] s (exec (Instr.alu .cp src) s) := by
  rw [exec_cp]
  exact (kept_setFlags (flagsWithin_all _ _)).does

theorem does_incOperand (m : Operand) :
    Does (dataFootprint (operandRegs m) { allFlags with c := false })
      (operandCells m (increment (s.getOperand m)).1 s ++ []) s (incOperand m s) :=
  ((kept_setOperand m _ (fun _ h => h)).trans
    (kept_setFlags (flagsWithin_but_c (by rw [setOperand_flags]; rfl)))).does

theorem does_decOperand (m : Operand) :
    Does (dataFootprint (operandRegs m) { allFlags with c := false })
      (operandCells m (decrement (s.getOperand m)).1 s ++ []) s (decOperand m s) :=
  ((kept_setOperand m _ (fun _ h => h)).trans
    (kept_setFlags (flagsWithin_but_c (by rw [setOperand_flags]; rfl)))).does

theorem does_daa : Does (dataFootprint [.a] { allFlags with n := false }) [] s (execDaa s) :=
  ((kept_setReg _ (by simp [dataFootprint])).trans (kept_setFlags (flagsWithin_but_n (by rfl)))).does

theorem does_cpl : Does (dataFootprint [.a] { allFlags with z := false, c := false }) [] s (execCpl s) :=
  ((kept_setReg _ (by simp [dataFootprint])).trans (kept_setFlags (flagsWithin_but_z_c (by rfl) (by rfl)))).does

theorem does_scf : Does (dataFootprint [] { allFlags with z := false }) [] s (execScf s) :=
  (kept_setFlags (flagsWithin_but_z (by rfl))).does

theorem does_ccf : Does (dataFootprint [] { allFlags with z := false }) [] s (execCcf s) :=
  (kept_setFlags (flagsWithin_but_z (by rfl))).does

theorem does_rotateAcc (op : RotOp) : Does (dataFootprint [.a] allFlags) [] s (rotateAcc op s) :=
  ((kept_setReg _ (by simp [dataFootprint])).trans (kept_setFlags (flagsWithin_all _ _))).does

theorem does_addHlTo (p : Pair) : Does (dataFootprint [.h, .l] { allFlags with z := false }) [] s (addHlTo p s) :=
  ((kept_setPair .hl _ (by simp [pairRegs, dataFootprint]) nofun nofun).trans
    (kept_setFlags (flagsWithin_but_z (by rfl)))).does

theorem does_incPair16 (p : Pair) : Does (pairFootprint p) [] s (incPair16 p s) :=
  (kept_setPair_pair p _).does

theorem does_decPair16 (p : Pair) : Does (pairFootprint p) [] s (decPair16 p s) :=
  (kept_setPair_pair p _).does

theorem does_addSpDisplacement (e : Byte) :
    Does { dataFootprint [] allFlags with sp := true } [] s (addSpDisplacement e s) :=
  ((kept_setSp _ rfl).trans (kept_setFlags (flagsWithin_all _ _))).does

/-! ### The extended table (44_rotate_shift.md section 2, 45_bit.md) -/

theorem does_rotateOperand (op : RotOp) (m : Operand) :
    Does (dataFootprint (operandRegs m) allFlags)
      (operandCells m (rotResult op (s.getOperand m) s.flags.c).1 s ++ []) s (rotateOperand op m s) :=
  ((kept_setOperand m _ (fun _ h => h)).trans (kept_setFlags (flagsWithin_all _ _))).does

theorem does_testBitOf (b : Fin 8) (m : Operand) :
    Does (dataFootprint [] { allFlags with c := false }) [] s (testBitOf b m s) :=
  (kept_setFlags (flagsWithin_but_c (by rfl))).does

theorem does_resetBitOf (b : Fin 8) (m : Operand) :
    Does (dataFootprint (operandRegs m) noFlags) (operandCells m (resBit b (s.getOperand m)) s) s (resetBitOf b m s) :=
  (kept_setOperand m _ (fun _ h => h)).does

theorem does_setBitOf (b : Fin 8) (m : Operand) :
    Does (dataFootprint (operandRegs m) noFlags) (operandCells m (setBit b (s.getOperand m)) s) s (setBitOf b m s) :=
  (kept_setOperand m _ (fun _ h => h)).does

/-! ### Control transfer (46_control.md) -/

/-- The footprint of a jump. -/
def jumpFootprint : Footprint := { dataFootprint [] noFlags with flow := true }

/-- The footprint of a call or return. -/
def callFootprint : Footprint := { dataFootprint [] noFlags with sp := true, flow := true }

theorem does_jumpTo (target : Word) : Does jumpFootprint [] s (jumpTo target s) :=
  (kept_setPc _ rfl).does

theorem does_jumpIf (cc : Cond) (target : Word) : Does jumpFootprint [] s (jumpIf cc target s) := by
  unfold jumpIf
  split
  · exact ((kept_setPc _ rfl).trans (kept_charge _ rfl)).does
  · exact (Kept.refl _ s).does

theorem does_callTo (target : Word) : Does callFootprint (pushCells s.pc s) s (callTo target s) :=
  ((kept_push16 s.pc rfl).trans (kept_setPc _ rfl)).does

theorem does_callIf (cc : Cond) (target : Word) :
    Does callFootprint (if condHolds cc s.flags then pushCells s.pc s else []) s (callIf cc target s) := by
  unfold callIf
  split
  · exact (((kept_push16 s.pc rfl).trans (kept_setPc _ rfl)).trans (kept_charge _ rfl)).does
  · exact (Kept.refl _ s).does

theorem does_popPc : Does callFootprint [] s (.next s.popPc) :=
  (kept_popPc rfl rfl).does

theorem does_returnIf (cc : Cond) : Does callFootprint [] s (returnIf cc s) := by
  unfold returnIf
  split
  · exact ((kept_popPc rfl rfl).trans (kept_charge _ rfl)).does
  · exact (Kept.refl _ s).does

theorem does_returnFromInterrupt :
    Does { callFootprint with control := true } [] s (.next s.returnFromInterrupt) :=
  ((kept_popPc rfl rfl).trans (kept_setIme _ rfl)).does

end

/-! ## Frames of instructions -/

theorem frame_of_kept {fp : Footprint} {stored : State → List Word} {i : Instr} {cells : State → List (Word × Byte)}
    (kept : ∀ s t, exec i s = .next t → Kept fp (cells s) s t)
    (addresses : ∀ s, (cells s).map Prod.fst = stored s := by intro; rfl) : Frame fp stored i := by
  intro s t next
  have k := kept s t next
  obtain ⟨z, n, h, c⟩ := k.flags
  exact ⟨addresses s ▸ untouched_of_memory k.memory, k.regs, z, n, h, c, k.sp, k.flow, k.control⟩

theorem frame_of_does {fp : Footprint} {stored : State → List Word} {i : Instr} {cells : State → List (Word × Byte)}
    (does : ∀ s, Does fp (cells s) s (exec i s))
    (addresses : ∀ s, (cells s).map Prod.fst = stored s := by intro; rfl) : Frame fp stored i := by
  refine frame_of_kept (fun s t next => ?_) addresses
  obtain ⟨u, run, kept⟩ := does s
  rw [run] at next
  cases next
  exact kept

/-- STOP in its no-op mode is the one way it completes (47_system.md R342). -/
theorem execStop_next {s t : State} (next : execStop s = .next t) : t = s := by
  unfold execStop at next
  split at next
  · nomatch next
  · cases next
    rfl

/-- Settles O49: a load is a write to a register or one byte store, and a step of HL writes H and L. -/
theorem frameOfLoads : Obligations.FrameOfLoads :=
  ⟨fun dst r => frame_of_does fun s => exec_ldReg dst r s ▸ does_loadOperand s (.reg dst) (.reg r),
    fun dst n => frame_of_does fun s => exec_ldImm dst n s ▸ does_loadOperand s (.reg dst) (.imm n),
    fun dst => frame_of_does fun s => exec_ldFromHl dst s ▸ does_loadOperand s (.reg dst) .indHl,
    fun r => frame_of_does fun s => exec_ldToHl r s ▸ does_loadOperand s .indHl (.reg r),
    fun n => frame_of_does fun s => does_loadOperand s .indHl (.imm n),
    frame_of_does fun s => does_loadAFrom s _, frame_of_does fun s => does_loadAFrom s _,
    frame_of_does fun s => does_loadAFrom s _, fun _ => frame_of_does fun s => does_loadAFrom s _,
    fun _ => frame_of_does fun s => does_loadAFrom s _,
    frame_of_does fun s => does_storeATo s _, frame_of_does fun s => does_storeATo s _,
    frame_of_does fun s => does_storeATo s _, fun _ => frame_of_does fun s => does_storeATo s _,
    fun _ => frame_of_does fun s => does_storeATo s _,
    frame_of_does fun s => does_storeAStep s 1, frame_of_does fun s => does_storeAStep s (-1),
    frame_of_does fun s => does_loadAStep s 1, frame_of_does fun s => does_loadAStep s (-1)⟩

/-- Settles O50: each operation writes its destination and then the flags of its rule. -/
theorem frameOfArithmetic : Obligations.FrameOfArithmetic := by
  refine ⟨fun op src => ?_, fun m => ?_, fun m => ?_, frame_of_does does_daa, frame_of_does does_cpl,
    frame_of_does does_scf, frame_of_does does_ccf, frame_of_does fun s => does_rotateAcc s .rlc,
    frame_of_does fun s => does_rotateAcc s .rrc, frame_of_does fun s => does_rotateAcc s .rl,
    frame_of_does fun s => does_rotateAcc s .rr,
    fun p => frame_of_does fun s => exec_addHlPair p s ▸ does_addHlTo s p,
    fun p => frame_of_does fun s => exec_incPair p s ▸ does_incPair16 s p,
    fun p => frame_of_does fun s => exec_decPair p s ▸ does_decPair16 s p,
    fun e => frame_of_does fun s => does_addSpDisplacement s e⟩
  · cases op with
    | cp => exact frame_of_does fun s => does_cp s src
    | _ => exact frame_of_does fun s => exec_alu _ src s ▸ does_aluOperation s _ src
  · exact frame_of_does (fun s => exec_inc8 m s ▸ does_incOperand s m)
      (fun s => by rw [List.append_nil, operandCells_addresses])
  · exact frame_of_does (fun s => exec_dec8 m s ▸ does_decOperand s m)
      (fun s => by rw [List.append_nil, operandCells_addresses])

/-- Settles O51: a rotate, RES or SET writes its operand, a rotate and BIT their flags. -/
theorem frameOfExtended : Obligations.FrameOfExtended :=
  ⟨fun op m => frame_of_does (fun s => exec_rot op m s ▸ does_rotateOperand s op m)
      (fun s => by rw [List.append_nil, operandCells_addresses]),
    fun b m => frame_of_does fun s => exec_bit b m s ▸ does_testBitOf s b m,
    fun b m => frame_of_does (fun s => exec_res b m s ▸ does_resetBitOf s b m)
      (fun s => operandCells_addresses m _ s),
    fun b m => frame_of_does (fun s => exec_set b m s ▸ does_setBitOf s b m)
      (fun s => operandCells_addresses m _ s)⟩

/-- Settles O52: a pair, SP or two bytes are written, and POP AF and LD HL,SP+r8 write the flags. -/
theorem frameOfStackAndPairs : Obligations.FrameOfStackAndPairs :=
  ⟨fun p nn => frame_of_does fun s => exec_ldPairImm p nn s ▸ does_loadPair s p nn,
    fun nn => frame_of_does fun s => does_storeSp s nn,
    frame_of_does fun s => (kept_setSp _ rfl).does,
    fun e => frame_of_does fun s => does_loadHlSpPlus s e,
    fun p => frame_of_does fun s => exec_push p s ▸ does_pushPair s p,
    fun p => frame_of_does fun s => exec_pop p s ▸ does_popPair s p⟩

/-- Settles O53: jumps write PC, calls and returns SP too, and the control bits have their own instructions; STOP completes only
as a no-op. -/
theorem frameOfControl : Obligations.FrameOfControl := by
  refine ⟨fun nn => frame_of_does fun s => does_jumpTo s nn, frame_of_does fun s => does_jumpTo s _,
    fun e => frame_of_does fun s => does_jumpTo s _,
    fun cc nn => frame_of_does fun s => exec_jpCond cc nn s ▸ does_jumpIf s cc nn,
    fun cc e => frame_of_does fun s => exec_jrCond cc e s ▸ does_jumpIf s cc _,
    fun nn => frame_of_does fun s => does_callTo s nn,
    fun y => frame_of_does fun s => exec_rst y s ▸ does_callTo s _,
    fun cc nn => frame_of_does (fun s => exec_callCond cc nn s ▸ does_callIf s cc nn) (fun s => ?_),
    frame_of_does does_popPc, fun cc => frame_of_does fun s => exec_retCond cc s ▸ does_returnIf s cc,
    frame_of_does does_returnFromInterrupt, frame_of_does fun s => (Kept.refl _ s).does, ?_,
    frame_of_does fun s => (kept_setHalted _ rfl).does, frame_of_does fun s => (kept_setIme _ rfl).does,
    frame_of_does fun s => (kept_setIme _ rfl).does⟩
  · split <;> rfl
  · refine frame_of_kept (cells := fun _ => []) fun s t next => ?_
    obtain rfl := execStop_next next
    exact .refl _ _

end Sys2Proof.Machine
end

section
/-! What any instruction can do, said once (40_load8.md to 47_system.md), and the statements about every instruction. -/

namespace Sys2Proof.Machine

/-! ## Costs -/

theorem baseCycles_le (i : Instr) : i.baseCycles ≤ 24 := by
  have primary : ∀ op, (primarySlot op).cycles ≤ 24 := by decide +kernel
  have extended : ∀ op, (extendedSlot op).cycles ≤ 24 := by decide +kernel
  unfold Instr.baseCycles
  split
  · exact Nat.zero_le 24
  · split
    · split
      · exact extended _
      · exact primary _
    · exact primary _
    · exact Nat.zero_le 24

theorem baseCycles_extended {i : Instr} {op : Byte} (enc : encode i = [0xCB, op]) :
    i.baseCycles = (extendedSlot op).cycles := by
  rw [Instr.baseCycles, enc]
  · rfl
  · rintro b rfl
    nomatch enc

/-- Every instruction that is no invalid slot costs at least 4 cycles (30_encoding.md R122, R133). -/
theorem le_baseCycles {i : Instr} (wf : i.wf = true) (valid : ∀ op, i ≠ .invalid op) : 4 ≤ i.baseCycles := by
  obtain ⟨b0, args, enc⟩ := encode_eq_cons i
  by_cases prefixed : b0 = 0xCB
  · have extended : ∀ op, 4 ≤ (extendedSlot op).cycles := by decide +kernel
    have len := instrLength_encode wf enc
    subst prefixed
    obtain ⟨op, rfl⟩ := List.length_eq_one_iff.mp (Nat.succ.inj len).symm
    rw [baseCycles_extended enc]
    exact extended op
  · have primary : ∀ op, op ≠ 0xCB → invalidSlots.contains op = false → 4 ≤ (primarySlot op).cycles := by decide +kernel
    rw [baseCycles_primary enc prefixed valid]
    refine primary b0 prefixed (Bool.eq_false_iff.mpr fun invalid => valid b0 ?_)
    rw [← decode3_encode wf enc []]
    exact decode3_eq_invalid.mpr ⟨rfl, invalid⟩

/-! ## One instruction -/

/-- What an instruction that completes may do: store bytes, change the CPU's own fields, IME and Halted only where 10_state.md R29
and R30 say so, and charge up to 24 cycles with its base cost. -/
structure Effect (i : Instr) (s t : State) : Prop where
  memory : ∃ stores, t = (s.storeAll stores).withCpuOf t
  ime : t.ime = s.ime ∨ i = .ei ∨ i = .di ∨ i = .reti
  halted : t.halted = s.halted ∨ i = .halt
  cycles : s.cycles ≤ t.cycles
  cost : t.cycles + i.baseCycles ≤ s.cycles + 24

/-- `i` answers `r` from `s`, a completion. -/
def Completes (i : Instr) (s : State) (r : Result) : Prop :=
  ∃ t, r = .next t ∧ Effect i s t

/-- `r` charges up to `n` cycles if it completes. -/
def ChargesUpTo (n : Nat) (s : State) (r : Result) : Prop :=
  ∀ t, r = .next t → s.cycles ≤ t.cycles ∧ t.cycles ≤ s.cycles + n

section

variable {fp : Footprint} {stores : List (Word × Byte)} {i : Instr} {s : State} {r : Result}

/-- An instruction that leaves IME and Halted alone. -/
theorem Does.completes_charging {n : Nat} (does : Does fp stores s r) (control : fp.control = false)
    (charges : ChargesUpTo n s r) (cost : n + i.baseCycles ≤ 24) : Completes i s r := by
  obtain ⟨t, next, kept⟩ := does
  obtain ⟨ime, halted⟩ := kept.control control
  obtain ⟨least, most⟩ := charges t next
  exact ⟨t, next, ⟨stores, kept.memory⟩, .inl ime, .inl halted, least, by omega⟩

/-- An instruction that changes data only. -/
theorem Does.completes (does : Does fp stores s r) (control : fp.control = false) (flow : fp.flow = false) :
    Completes i s r := by
  refine does.completes_charging control (n := 0) (fun t next => ?_) (by have := baseCycles_le i; omega)
  obtain ⟨u, next', kept⟩ := does
  cases next.symm.trans next'
  have same := (kept.flow flow).2
  omega

end

section

variable (s : State)

theorem push16_cycles (v : Word) : (s.push16 v).cycles = s.cycles := by
  simp [push16_eq]

theorem popPc_cycles : s.popPc.cycles = s.cycles := by
  simp [popPc_eq]

theorem jumpTo_charges (target : Word) : ChargesUpTo 0 s (jumpTo target s) := by
  rintro t ⟨⟩
  exact ⟨le_rfl, le_rfl⟩

theorem jumpIf_charges (cc : Cond) (target : Word) : ChargesUpTo 4 s (jumpIf cc target s) := by
  intro t next
  unfold jumpIf at next
  split at next <;> cases next
  · exact ⟨Nat.le_add_right _ 4, le_rfl⟩
  · exact ⟨le_rfl, Nat.le_add_right _ 4⟩

theorem callTo_charges (target : Word) : ChargesUpTo 0 s (callTo target s) := by
  rintro t ⟨⟩
  simp [push16_cycles]

theorem callIf_charges (cc : Cond) (target : Word) : ChargesUpTo 12 s (callIf cc target s) := by
  intro t next
  unfold callIf at next
  split at next <;> cases next
  · simp [push16_cycles]
  · exact ⟨le_rfl, Nat.le_add_right _ 12⟩

theorem popPc_charges : ChargesUpTo 0 s (.next s.popPc) := by
  rintro t ⟨⟩
  simp [popPc_cycles]

theorem returnIf_charges (cc : Cond) : ChargesUpTo 12 s (returnIf cc s) := by
  intro t next
  unfold returnIf at next
  split at next <;> cases next
  · simp [popPc_cycles]
  · exact ⟨le_rfl, Nat.le_add_right _ 12⟩

/-- The extended table's implementations store to their operand and change data only (30_encoding.md R128). -/
theorem does_runExtended (op : Byte) :
    ∃ fp stores, fp.control = false ∧ fp.flow = false ∧ Does fp stores s (runExtended op s) := by
  unfold runExtended
  dsimp only
  split
  · exact ⟨_, _, rfl, rfl, does_rotateOperand s _ _⟩
  · split
    · exact ⟨_, _, rfl, rfl, does_testBitOf s _ _⟩
    · split
      · exact ⟨_, _, rfl, rfl, does_resetBitOf s _ _⟩
      · exact ⟨_, _, rfl, rfl, does_setBitOf s _ _⟩

end

/-- The prefixed instructions are the extended table's (30_encoding.md R131, R136). -/
theorem exec_prefixed {i : Instr} {args : List Byte} (wf : i.wf = true) (enc : encode i = 0xCB :: args) (s : State) :
    ∃ op, exec i s = runExtended op s := by
  have made := decode3_encode wf enc []
  exact ⟨_, by rw [← exec_extended, ← made]; rfl⟩

/-- The byte 0xCB on its own moves PC and charges before it runs the extended instruction (47_system.md R345). -/
theorem completes_prefixCb (s : State) : Completes .prefixCb s (exec .prefixCb s) := by
  have extended : ∀ op, (extendedSlot op).cycles ≤ 24 := by decide +kernel
  let op := s.memRead s.pc
  let ready := (s.setPc (s.pc + 1)).charge (extendedSlot op).cycles
  obtain ⟨fp, stores, control, flow, t, next, kept⟩ := does_runExtended ready op
  obtain ⟨ime, halted⟩ := kept.control control
  have cycles : t.cycles = s.cycles + (extendedSlot op).cycles := (kept.flow flow).2
  have moved : ready = (s.storeAll []).withCpuOf ready := rfl
  refine ⟨t, next, ⟨_, memory_trans moved kept.memory⟩, .inl ime, .inl halted, by omega, ?_⟩
  rw [cycles]
  exact Nat.add_le_add_left (extended op) s.cycles

theorem exec_stop_nop2 {s : State} (mode : s.params.stopMode = .nop2) : exec .stop s = .next s := by
  change execStop s = _
  rw [execStop, mode]

theorem exec_stop_fault {s : State} (mode : s.params.stopMode = .fault) :
    exec .stop s = .fault (.stopUnsupported (s.pc - 2) s) := by
  change execStop s = _
  rw [execStop, mode]

/-- Instruction by instruction, the shared operation each runs. -/
theorem completes_primary {i : Instr} (s : State) (primary : (encode i).headD 0 ≠ 0xCB) (valid : ∀ op, i ≠ .invalid op) :
    Completes i s (exec i s) ∨ (i = .stop ∧ s.params.stopMode = .fault) := by
  cases i with
  | invalid op => exact absurd rfl (valid op)
  | ldBD8 | ldCD8 | ldDD8 | ldED8 | ldHD8 | ldLD8 | ldIndHlD8 | ldAD8 | ldBB | ldBC | ldBD | ldBE | ldBH | ldBL
  | ldBIndHl | ldBA | ldCB | ldCC | ldCD | ldCE | ldCH | ldCL | ldCIndHl | ldCA | ldDB | ldDC | ldDD | ldDE | ldDH | ldDL
  | ldDIndHl | ldDA | ldEB | ldEC | ldED | ldEE | ldEH | ldEL | ldEIndHl | ldEA | ldHB | ldHC | ldHD | ldHE | ldHH
  | ldHL | ldHIndHl | ldHA | ldLB | ldLC | ldLD | ldLE | ldLH | ldLL | ldLIndHl | ldLA | ldIndHlB | ldIndHlC | ldIndHlD
  | ldIndHlE | ldIndHlH | ldIndHlL | ldIndHlA | ldAB | ldAC | ldAD | ldAE | ldAH | ldAL | ldAIndHl | ldAA =>
    exact .inl ((does_loadOperand s _ _).completes rfl rfl)
  | ldhAIndA8 | ldAIndA16 | ldAIndBc | ldAIndDe | ldAIndC => exact .inl ((does_loadAFrom s _).completes rfl rfl)
  | ldhIndA8A | ldIndA16A | ldIndBcA | ldIndDeA | ldIndCA => exact .inl ((does_storeATo s _).completes rfl rfl)
  | ldIndHlIncA | ldIndHlDecA => exact .inl ((does_storeAStep s _).completes rfl rfl)
  | ldAIndHlInc | ldAIndHlDec => exact .inl ((does_loadAStep s _).completes rfl rfl)
  | ldBcD16 | ldDeD16 | ldHlD16 | ldSpD16 => exact .inl ((does_loadPair s _ _).completes rfl rfl)
  | ldIndA16Sp => exact .inl ((does_storeSp s _).completes rfl rfl)
  | ldSpHl => exact .inl ((kept_setSp (fp := pairFootprint .sp) _ rfl).does.completes rfl rfl)
  | ldHlSpR8 => exact .inl ((does_loadHlSpPlus s _).completes rfl rfl)
  | pushBc | pushDe | pushHl | pushAf => exact .inl ((does_pushPair s _).completes rfl rfl)
  | popBc | popDe | popHl | popAf => exact .inl ((does_popPair s _).completes rfl rfl)
  | addAD8 | adcAD8 | subD8 | sbcAD8 | andD8 | xorD8 | orD8 | cpD8 | addAB | addAC | addAD | addAE | addAH | addAL
  | addAIndHl | addAA | adcAB | adcAC | adcAD | adcAE | adcAH | adcAL | adcAIndHl | adcAA | subB | subC | subD | subE
  | subH | subL | subIndHl | subA | sbcAB | sbcAC | sbcAD | sbcAE | sbcAH | sbcAL | sbcAIndHl | sbcAA | andB | andC | andD
  | andE | andH | andL | andIndHl | andA | xorB | xorC | xorD | xorE | xorH | xorL | xorIndHl | xorA | orB | orC | orD
  | orE | orH | orL | orIndHl | orA | cpB | cpC | cpD | cpE | cpH | cpL | cpIndHl | cpA =>
    exact .inl ((does_aluOperation s _ _).completes rfl rfl)
  | incB | incC | incD | incE | incH | incL | incIndHl | incA => exact .inl ((does_incOperand s _).completes rfl rfl)
  | decB | decC | decD | decE | decH | decL | decIndHl | decA => exact .inl ((does_decOperand s _).completes rfl rfl)
  | daa => exact .inl ((does_daa s).completes rfl rfl)
  | cpl => exact .inl ((does_cpl s).completes rfl rfl)
  | scf => exact .inl ((does_scf s).completes rfl rfl)
  | ccf => exact .inl ((does_ccf s).completes rfl rfl)
  | rlca | rrca | rla | rra => exact .inl ((does_rotateAcc s _).completes rfl rfl)
  | addHlBc | addHlDe | addHlHl | addHlSp => exact .inl ((does_addHlTo s _).completes rfl rfl)
  | incBc | incDe | incHl | incSp => exact .inl ((does_incPair16 s _).completes rfl rfl)
  | decBc | decDe | decHl | decSp => exact .inl ((does_decPair16 s _).completes rfl rfl)
  | addSpR8 => exact .inl ((does_addSpDisplacement s _).completes rfl rfl)
  | jrR8 | jpA16 | jpIndHl =>
    exact .inl ((does_jumpTo s _).completes_charging rfl (jumpTo_charges s _) (Nat.le_of_ble_eq_true rfl))
  | jrNzR8 | jrZR8 | jrNcR8 | jrCR8 | jpNzA16 | jpZA16 | jpNcA16 | jpCA16 =>
    exact .inl ((does_jumpIf s _ _).completes_charging rfl (jumpIf_charges s _ _) (Nat.le_of_ble_eq_true rfl))
  | callA16 | rst00 | rst08 | rst10 | rst18 | rst20 | rst28 | rst30 | rst38 =>
    exact .inl ((does_callTo s _).completes_charging rfl (callTo_charges s _) (Nat.le_of_ble_eq_true rfl))
  | callNzA16 | callZA16 | callNcA16 | callCA16 =>
    exact .inl ((does_callIf s _ _).completes_charging rfl (callIf_charges s _ _) (Nat.le_of_ble_eq_true rfl))
  | ret => exact .inl ((does_popPc s).completes_charging rfl (popPc_charges s) (Nat.le_of_ble_eq_true rfl))
  | retNz | retZ | retNc | retC =>
    exact .inl ((does_returnIf s _).completes_charging rfl (returnIf_charges s _) (Nat.le_of_ble_eq_true rfl))
  | nop => exact .inl ((Kept.refl (pairFootprint .sp) s).does.completes rfl rfl)
  | stop =>
    cases mode : s.params.stopMode with
    | fault => exact .inr ⟨rfl, rfl⟩
    | nop2 =>
      rw [exec_stop_nop2 mode]
      exact .inl ((Kept.refl (pairFootprint .sp) s).does.completes rfl rfl)
  | halt => exact .inl ⟨_, rfl, ⟨[], rfl⟩, .inl rfl, .inr rfl, le_rfl, Nat.add_le_add_left (baseCycles_le _) _⟩
  | di => exact .inl ⟨_, rfl, ⟨[], rfl⟩, .inr (.inr (.inl rfl)), .inl rfl, le_rfl, Nat.add_le_add_left (baseCycles_le _) _⟩
  | ei => exact .inl ⟨_, rfl, ⟨[], rfl⟩, .inr (.inl rfl), .inl rfl, le_rfl, Nat.add_le_add_left (baseCycles_le _) _⟩
  | reti =>
    have same : s.returnFromInterrupt.halted = s.halted ∧ s.returnFromInterrupt.cycles = s.cycles := by
      simp [State.returnFromInterrupt, popPc_eq]
    obtain ⟨t, next, kept⟩ := does_returnFromInterrupt s
    cases next
    exact .inl ⟨_, rfl, ⟨[], kept.memory⟩, .inr (.inr (.inr rfl)), .inl same.1, same.2.ge,
      by have := baseCycles_le .reti; omega⟩
  | _ => exact absurd rfl primary

/-- What running any instruction can come to: it completes, or it is an invalid slot, or it is STOP in its fault mode. -/
theorem exec_outcome (i : Instr) (s : State) :
    Completes i s (exec i s) ∨ (∃ op, i = .invalid op) ∨ (i = .stop ∧ s.params.stopMode = .fault) := by
  by_cases valid : ∀ op, i ≠ .invalid op
  case neg =>
    push Not at valid
    exact .inr (.inl valid)
  obtain ⟨b0, args, enc⟩ := encode_eq_cons i
  by_cases prefixed : b0 = 0xCB
  case neg =>
    have primary : (encode i).headD 0 ≠ 0xCB := by rwa [enc]
    exact (completes_primary s primary valid).imp_right .inr
  subst prefixed
  by_cases alone : i = .prefixCb
  · subst alone
    exact .inl (completes_prefixCb s)
  · have wf : i.wf = true := by
      cases i with
      | invalid op => exact absurd rfl (valid op)
      | prefixCb => exact absurd rfl alone
      | _ => rfl
    obtain ⟨op, run⟩ := exec_prefixed wf enc s
    obtain ⟨fp, stores, control, flow, does⟩ := does_runExtended s op
    rw [run]
    exact .inl (does.completes control flow)

theorem exec_effect {i : Instr} {s t : State} (next : exec i s = .next t) : Effect i s t := by
  rcases exec_outcome i s with ⟨u, next', effect⟩ | ⟨op, rfl⟩ | ⟨rfl, mode⟩
  · rw [next] at next'
    cases next'
    exact effect
  · nomatch next
  · rw [exec_stop_fault mode] at next
    nomatch next

/-! ## The statements -/

/-- Settles O47: an instruction that completes is neither of the two that raise a fault. -/
theorem faultsExactly : Obligations.FaultsExactly := by
  refine ⟨fun op s => ⟨rfl, rfl, rfl⟩, fun i s => ?_⟩
  rcases exec_outcome i s with ⟨t, next, -⟩ | ⟨op, rfl⟩ | ⟨rfl, mode⟩
  · refine .inl ⟨⟨t, next⟩, ?_, ?_⟩
    · rintro op rfl
      nomatch next
    · rintro ⟨rfl, mode⟩
      rw [exec_stop_fault mode] at next
      nomatch next
  · exact .inr (.inl ⟨op, rfl, rfl⟩)
  · exact .inr (.inr ⟨rfl, mode, exec_stop_fault mode⟩)

/-- Settles O46: STOP's second byte is not looked at, and its two modes are the two answers. -/
theorem stopByMode : Obligations.StopByMode :=
  ⟨encodes_primary rfl (by decide) nofun rfl fun _ => rfl,
    fun x rest => decode_primary (op := 0x10) (args := [x]) (by decide) rfl rest,
    fun _ => exec_stop_nop2, fun _ => exec_stop_fault⟩

/-- Settles O56: stores reach none of the fields named, and IME and Halted are as the effect of an instruction says. -/
theorem controlBitsWrittenOnlyBy : Obligations.ControlBitsWrittenOnlyBy := by
  intro i s t next
  obtain ⟨⟨stores, memory⟩, ime, halted, -, -⟩ := exec_effect next
  have kept := untouched_of_memory memory
  exact ⟨fun changed => ime.resolve_left changed, fun changed => halted.resolve_left changed, kept.joy, kept.params,
    kept.boot, kept.joyInput, kept.faulted, kept.lastTimerUpdate⟩

/-- Settles O48: the decoder takes the extended opcode's slot, whose instruction the byte 0xCB runs as well. -/
theorem prefixRunsExtended : Obligations.PrefixRunsExtended := by
  refine ⟨rfl, rfl, fun s => ?_⟩
  have enc := (encode_extended (s.memRead s.pc)).1
  obtain ⟨t, next, -⟩ := completes_prefixCb s
  refine ⟨(extendedSlot (s.memRead s.pc)).make 0 0, rfl, ?_, t, next⟩
  rw [exec_extended, baseCycles_extended enc]
  rfl

end Sys2Proof.Machine
end

section
/-! The Step (60_exceptions.md R400 to R433): its phases as the rules write them, and what each kind of Step answers. -/

namespace Sys2Proof.Machine

/-! ## The kinds of Step -/

section

variable {s : State} {src : IntSource}

theorem coreStep_faulted (ended : s.faulted = true) : coreStep s = .fault .alreadyFaulted := by
  rw [coreStep, coreStepWith, if_pos ended]

variable (running : s.faulted = false)
include running

theorem coreStep_service (check : s.beginStep.interruptCheck = some src) (ime : s.beginStep.ime = true) :
    coreStep s = .next (s.beginStep.service src).timerUpdate := by
  simp only [coreStep, coreStepWith, running, Bool.false_eq_true, if_false, check, ime, if_true, endStep]

theorem coreStep_resume (check : s.beginStep.interruptCheck = some src) (ime : s.beginStep.ime = false)
    (mode : s.params.haltWake = .resume) : coreStep s = runInstruction exec (s.beginStep.setHalted false) := by
  simp only [coreStep, coreStepWith, running, Bool.false_eq_true, if_false, check, ime, beginStep_params, mode]

theorem coreStep_dispatch (check : s.beginStep.interruptCheck = some src) (ime : s.beginStep.ime = false)
    (mode : s.params.haltWake = .dispatchNoAck) : coreStep s = .next (s.beginStep.enterHandler src).timerUpdate := by
  simp only [coreStep, coreStepWith, running, Bool.false_eq_true, if_false, check, ime, beginStep_params, mode, endStep]

variable (check : s.beginStep.interruptCheck = none)
include check

theorem coreStep_idle (halted : s.beginStep.halted = true) : coreStep s = .next (s.beginStep.charge 4).timerUpdate := by
  simp only [coreStep, coreStepWith, running, Bool.false_eq_true, if_false, check, halted, if_true, endStep]

theorem coreStep_run (halted : s.beginStep.halted = false) : coreStep s = runInstruction exec s.beginStep := by
  simp only [coreStep, coreStepWith, running, Bool.false_eq_true, if_false, check, halted]

end

theorem step_of_next {s t : State} (core : coreStep s = .next t) :
    step s = .next (t.setPpu (ppuTicks (t.cycles - s.cycles) t.ppu)) := by
  rw [coreStep] at core
  rw [step, stepWith, core]
  rfl

theorem step_of_fault {s : State} {e : Fault} (core : coreStep s = .fault e) : step s = .fault e := by
  rw [coreStep] at core
  rw [step, stepWith, core]

/-! ## Phases 1 to 3 -/

theorem joypadHit_iff (s : State) (snap : Joypad) :
    joypadHit s snap = true ↔
      ((s.joypSel.getLsbD 0 = false ∧
            ((snap.right ∧ ¬s.joy.right) ∨ (snap.left ∧ ¬s.joy.left) ∨ (snap.up ∧ ¬s.joy.up) ∨
              (snap.down ∧ ¬s.joy.down))) ∨
          (s.joypSel.getLsbD 1 = false ∧
            ((snap.a ∧ ¬s.joy.a) ∨ (snap.b ∧ ¬s.joy.b) ∨ (snap.select ∧ ¬s.joy.select) ∨
              (snap.start ∧ ¬s.joy.start)))) ∧
        s.ie.getLsbD 4 = true := by
  simp only [joypadHit, State.dpadSelected, State.buttonsSelected, IntSource.bit, Bool.and_eq_true, Bool.or_eq_true,
    Bool.not_eq_true', Bool.not_eq_true, or_assoc, and_comm]

/-- Settles O12: the sample's three cases by the stream's first entry, and the latch by the PPU's flag. -/
theorem sampleAndLatch : Obligations.SampleAndLatch := by
  refine ⟨fun s none => ?_, fun s later absent => ?_, fun s snap later entry => ?_, fun s => rfl, fun s => rfl⟩
  · simp only [State.joypadSample, none]
  · simp only [State.joypadSample, absent]
  · simp only [State.joypadSample, entry, ← joypadHit_iff]
    split <;> rfl

theorem pending_eq (s : State) (src : IntSource) : s.pending src = (s.ifl &&& s.ie).getLsbD src.bit :=
  BitVec.getLsbD_and.symm

/-- A mask of one bit takes something exactly where the bit is set. -/
theorem and_twoPow_ne_zero (v : Byte) {k : Nat} (inRange : k < 8) :
    v &&& BitVec.twoPow 8 k ≠ 0 ↔ v.getLsbD k = true := by
  have mask : BitVec.twoPow 8 k ≠ 0 := by interval_cases k <;> decide
  rw [BitVec.and_twoPow]
  split <;> simp_all

/-- Settles O7: a pending source's bit of IF and IE, by a mask. -/
theorem interruptCheckOrder : Obligations.InterruptCheckOrder := by
  intro s
  have timer : (s.ifl &&& s.ie) &&& 0x04 ≠ 0 ↔ s.pending .timer = true := by
    rw [pending_eq]
    exact and_twoPow_ne_zero (s.ifl &&& s.ie) (k := 2) (by decide)
  have vblank : (s.ifl &&& s.ie) &&& 0x01 ≠ 0 ↔ s.pending .vblank = true := by
    rw [pending_eq]
    exact and_twoPow_ne_zero (s.ifl &&& s.ie) (k := 0) (by decide)
  have joypad : (s.ifl &&& s.ie) &&& 0x10 ≠ 0 ↔ s.pending .joypad = true := by
    rw [pending_eq]
    exact and_twoPow_ne_zero (s.ifl &&& s.ie) (k := 4) (by decide)
  refine ⟨fun ime halted => ?_, fun active => ?_⟩
  · simp [State.interruptCheck, ime, halted]
  · simp only [timer, vblank, joypad]
    rw [State.interruptCheck, if_pos (by simpa using active)]

/-! ## Phase 4, and the Steps of a halted CPU -/

/-- Acknowledging clears the source's bit (60_exceptions.md R411). -/
theorem acknowledge_eq (s : State) (src : IntSource) :
    s.acknowledge src =
      s.setIf (s.ifl &&& match src with | .vblank => 0xFE | .timer => 0xFB | .joypad => 0xEF) := by
  cases src <;> rfl

/-- Settles O8: the Step services the source, which acknowledges it, enters its handler and clears IME. -/
theorem interruptServiced : Obligations.InterruptServiced := by
  intro s src running check ime
  rw [coreStep_service running check ime, State.service, enterHandler_eq, acknowledge_eq]
  cases src <;> rfl

/-- Settles O9: the three kinds of Step of a halted CPU, or of one whose source cannot be serviced. -/
theorem haltedSteps : Obligations.HaltedSteps := by
  refine ⟨fun s running halted check => coreStep_idle running check halted,
    fun s src running ime check mode => coreStep_resume running check ime mode,
    fun s src running ime check mode => ?_⟩
  rw [coreStep_dispatch running check ime mode, enterHandler_eq]
  cases src <;> rfl

/-! ## Phases 5 to 7 -/

/-- The decoder reads from the fetched bytes the instruction a Step runs. -/
theorem fetchInstr_of_decode {s : State} {i : Instr} {rest : List Byte} (h : decode s.fetchBytes = .ok (i, rest)) :
    s.fetchInstr = i := by
  obtain ⟨b0, tail, bytes, -, rfl, -⟩ := decode_eq_ok h
  cases bytes
  rfl

/-- Settles O6: an undisturbed Step is the fetched instruction's run with the end of a Step after it. -/
theorem stepRunsDecodedInstruction : Obligations.StepRunsDecodedInstruction := by
  intro s i rest running check halted bytes
  have core := coreStep_run running check halted
  rw [runInstruction, fetchInstr_of_decode bytes] at core
  refine ⟨fun t next => step_of_next ?_, fun e fault => step_of_fault ?_⟩
  · exact core.trans (congrArg endStep next)
  · exact core.trans (congrArg endStep fault)

/-- Nothing moves before an invalid slot's fault (30_encoding.md R134 step 4, 60_exceptions.md R401). -/
theorem advancePast_invalid (s : State) (op : Byte) : s.advancePast (.invalid op) = s := by
  have pc : s.pc + BitVec.ofNat 16 (Instr.invalid op).pcAdvance = s.pc := BitVec.add_zero s.pc
  rw [State.advancePast, pc]
  rfl

/-- Settles O10: the fetched instruction is the invalid slot, whose fault is raised before anything moves. -/
theorem fatalErrorEndsRun : Obligations.FatalErrorEndsRun := by
  refine ⟨fun s op running check halted opcode invalid => ⟨?_, by simp, by simp⟩,
    fun s ended => step_of_fault (coreStep_faulted ended)⟩
  have fetched : s.beginStep.fetchInstr = .invalid op := decode3_eq_invalid.mpr ⟨opcode, invalid⟩
  apply step_of_fault
  rw [coreStep_run running check halted, runInstruction, fetched, advancePast_invalid]
  rfl

/-! ## Phase 8: the timer -/

/-- The masks are one less than the period and the period (60_exceptions.md R431, 90_conflicts.md C1). -/
theorem timerMasks_eq (tac : Byte) : timerMasks (tac.extractLsb' 0 2) = (timerPeriod tac - 1, timerPeriod tac) := by
  revert tac
  decide +kernel

theorem timerPeriod_eq_two_pow (tac : Byte) : ∃ k, timerPeriod tac = 2 ^ k := by
  unfold timerPeriod
  split
  · exact ⟨10, rfl⟩
  · split
    · exact ⟨4, rfl⟩
    · split
      · exact ⟨6, rfl⟩
      · exact ⟨8, rfl⟩

/-- Two remainders below a power of two carry into its bit exactly if they sum to it or more. -/
theorem carry_into_bit (k a b : Nat) :
    ((a &&& (2 ^ k - 1)) + (b &&& (2 ^ k - 1)) &&& 2 ^ k != 0) = decide (2 ^ k ≤ a % 2 ^ k + b % 2 ^ k) := by
  have ha := Nat.mod_lt a (Nat.two_pow_pos k)
  have hb := Nat.mod_lt b (Nat.two_pow_pos k)
  rw [Nat.and_two_pow_sub_one_eq_mod, Nat.and_two_pow_sub_one_eq_mod, Nat.and_two_pow,
    Nat.testBit_eq_decide_div_mod_eq]
  by_cases reach : 2 ^ k ≤ a % 2 ^ k + b % 2 ^ k
  · have bit : (a % 2 ^ k + b % 2 ^ k) / 2 ^ k = 1 := Nat.div_eq_of_lt_le (by omega) (by omega)
    simp [bit, reach]
  · have bit : (a % 2 ^ k + b % 2 ^ k) / 2 ^ k = 0 := Nat.div_eq_of_lt (by omega)
    simp [bit, reach]

theorem timerCarries_eq (tac : Byte) (div : Word) (delta : Nat) :
    timerCarries tac div delta =
      (tac.getLsbD 2 && decide (timerPeriod tac ≤ div.toNat % timerPeriod tac + delta % timerPeriod tac)) := by
  obtain ⟨k, period⟩ := timerPeriod_eq_two_pow tac
  simp only [timerCarries, timerMasks_eq, period, carry_into_bit]

/-- An increment of TIMA, its two cases in one form (60_exceptions.md R432, R433). -/
theorem timaIncrement_eq (s : State) :
    s.timaIncrement =
      (s.setTima (if s.tima = 0xFF then s.tma else s.tima + 1)).setIf
        (if s.tima = 0xFF then s.ifl ||| 0x04 else s.ifl) := by
  unfold State.timaIncrement
  split <;> rfl

/-- Settles O11: the divider's sum is the sum of numbers, and an update with a carry increments TIMA. -/
theorem timerUpdateRule : Obligations.TimerUpdateRule := by
  refine fun s => ⟨fun none => if_pos none, fun some => ?_⟩
  have div (delta : Nat) : s.div + BitVec.ofNat 16 delta = BitVec.ofNat 16 (s.div.toNat + delta) := by
    rw [BitVec.ofNat_add, BitVec.ofNat_toNat, BitVec.setWidth_eq]
  rw [State.timerUpdate, if_neg (by omega)]
  dsimp only
  rw [← timerCarries_eq, div, timaIncrement_eq]
  cases timerCarries s.tac s.div (s.cycles - s.lastTimerUpdate) with
  | false => simp only [Bool.false_eq_true, false_and, if_false]; rfl
  | true => simp only [true_and, if_true]; rfl

/-! ## The driver -/

theorem ppuTicks_eq_iterate (n : Nat) (p : PpuState) : ppuTicks n p = ppuTick^[n] p := by
  induction n generalizing p with
  | zero => rfl
  | succ n ih => exact ih (ppuTick p)

/-- Settles O13: the ticks are the tick iterated, and a tick is by the PPU's idle mark. -/
theorem stepAdvancesPpu : Obligations.StepAdvancesPpu :=
  ⟨fun s t core => by rw [step_of_next core, ppuTicks_eq_iterate], fun p awake => if_neg (by simp [awake]),
    fun p idle => if_pos idle⟩

end Sys2Proof.Machine
end

section
/-! The whole machine: a Step that completes as a row of byte stores and changes of the CPU's own fields between its first phases and
its timer update, and the invariants that follow. -/

namespace Sys2Proof.Machine

/-! ## What a Step can do -/

/-- A Step that completes up to its timer update: after the first two phases, and the acknowledgement of an interrupt if it services
one, byte stores and changes of the CPU's own fields, with 4 to 24 cycles charged. -/
structure StepRun (s u : State) : Prop where
  running : s.faulted = false
  memory : ∃ m stores, (m = s.beginStep ∨ ∃ src, m = s.beginStep.acknowledge src) ∧ u = (m.storeAll stores).withCpuOf u
  least : s.cycles + 4 ≤ u.cycles
  most : u.cycles ≤ s.cycles + 24

/-- The footprint of an interrupt entry. -/
def entryFootprint : Footprint := { callFootprint with control := true }

theorem kept_enterHandler (s : State) (src : IntSource) :
    Kept entryFootprint (pushCells s.pc s) s (s.enterHandler src) :=
  (((kept_push16 s.pc rfl).trans (kept_setPc _ rfl)).trans (kept_setHalted _ rfl)).trans (kept_charge 20 rfl)

theorem kept_service (s : State) (src : IntSource) :
    ∃ stores, Kept entryFootprint stores (s.acknowledge src) (s.service src) :=
  ⟨_, (kept_enterHandler (s.acknowledge src) src).trans (kept_setIme false rfl)⟩

theorem enterHandler_cycles (s : State) (src : IntSource) : (s.enterHandler src).cycles = s.cycles + 20 := by
  rw [enterHandler_eq]
  rfl

theorem service_cycles (s : State) (src : IntSource) : (s.service src).cycles = s.cycles + 20 :=
  enterHandler_cycles (s.acknowledge src) src

/-- A fetched instruction that completes is well formed and no invalid slot. -/
theorem le_baseCycles_of_fetched {s t u : State} (next : exec s.fetchInstr t = .next u) : 4 ≤ s.fetchInstr.baseCycles := by
  refine le_baseCycles (decode3_wf _ _ _).1 fun op invalid => ?_
  rw [invalid] at next
  nomatch next

theorem coreStep_eq_next {s t : State} (core : coreStep s = .next t) : ∃ u, StepRun s u ∧ t = u.timerUpdate := by
  obtain ⟨running, u, rfl, kind⟩ := coreStepWith_cases core
  refine ⟨u, ?_, rfl⟩
  rcases kind with ⟨src, -, -, rfl⟩ | ⟨src, -, -, -, rfl⟩ | ⟨-, -, rfl⟩ | ⟨b, start, next⟩
  · obtain ⟨stores, kept⟩ := kept_service s.beginStep src
    have cycles := service_cycles s.beginStep src
    rw [beginStep_cycles] at cycles
    exact ⟨running, ⟨_, stores, .inr ⟨src, rfl⟩, kept.memory⟩, by omega, by omega⟩
  · have cycles := enterHandler_cycles s.beginStep src
    rw [beginStep_cycles] at cycles
    exact ⟨running, ⟨_, _, .inl rfl, (kept_enterHandler s.beginStep src).memory⟩, by omega, by omega⟩
  · have cycles : (s.beginStep.charge 4).cycles = s.cycles + 4 := by simp
    exact ⟨running, ⟨_, [], .inl rfl, rfl⟩, by omega, by omega⟩
  · obtain ⟨⟨stores, memory⟩, -, -, least, cost⟩ := exec_effect next
    have base := le_baseCycles_of_fetched next
    have fetched : b = (s.beginStep.storeAll []).withCpuOf b ∧ b.cycles = s.cycles := by
      rcases start with ⟨-, -, rfl⟩ | ⟨-, -, -, rfl⟩
      · exact ⟨rfl, beginStep_cycles s⟩
      · exact ⟨rfl, beginStep_cycles s⟩
    have ready : b.advancePast b.fetchInstr = (b.storeAll []).withCpuOf (b.advancePast b.fetchInstr) := rfl
    have charged : (b.advancePast b.fetchInstr).cycles = s.cycles + b.fetchInstr.baseCycles :=
      congrArg (· + b.fetchInstr.baseCycles) fetched.2
    exact ⟨running, ⟨_, _, .inl rfl, memory_trans (memory_trans fetched.1 ready) memory⟩, by omega, by omega⟩

theorem step_eq_next {s t : State} (next : step s = .next t) :
    ∃ u, StepRun s u ∧ t = u.timerUpdate.setPpu (ppuTicks (u.timerUpdate.cycles - s.cycles) u.timerUpdate.ppu) := by
  obtain ⟨v, core, rfl⟩ := stepWith_cases next
  obtain ⟨u, run, rfl⟩ := coreStep_eq_next core
  exact ⟨u, run, rfl⟩

/-- A property of what is not the CPU's own that the first phases and every byte store keep holds up to the timer update. -/
theorem StepRun.induction {P : State → Prop} {s u : State} (run : StepRun s u) (cpu : ∀ m t, P m → P (m.withCpuOf t))
    (store : ∀ m a v, P m → P (m.memWrite a v)) (start : P s.beginStep)
    (acknowledged : ∀ src, P (s.beginStep.acknowledge src)) : P u := by
  obtain ⟨m, stores, start', memory⟩ := run.memory
  have here : P m := by
    rcases start' with rfl | ⟨src, rfl⟩
    · exact start
    · exact acknowledged src
  rw [memory]
  exact cpu _ _ (storeAll_induction store here stores)

/-! ## The statements -/

/-- Settles O57: the bounds of a Step's run, which the timer update leaves while it catches up. -/
theorem stepCharges : Obligations.StepCharges := by
  intro s t core
  obtain ⟨u, run, rfl⟩ := coreStep_eq_next core
  rw [timerUpdate_cycles, timerUpdate_lastTimerUpdate]
  refine ⟨run.least, run.most, fun behind => max_eq_right ?_⟩
  have same : u.lastTimerUpdate = s.lastTimerUpdate :=
    run.induction (P := fun m => m.lastTimerUpdate = s.lastTimerUpdate) (fun _ _ h => h)
      (fun m a v h => (memWrite_lastTimerUpdate m a v).trans h) (beginStep_lastTimerUpdate s)
      (fun _ => beginStep_lastTimerUpdate s)
  have least := run.least
  omega

/-- Once the latch is set a store leaves it set (20_memory.md R92). -/
theorem Stored.bootOff_true {s t : State} {a : Word} {v : Byte} (stored : Stored s v a t) (latched : s.bootOff = true) :
    t.bootOff = true := by
  cases stored with
  | bootOff => exact Bool.or_eq_true_iff.mpr (.inl latched)
  | _ => exact latched

/-- Settles O19: below 0x0100 the boot ROM is read until the latch is set, and no part of a step clears the latch. -/
theorem bootOverlay : Obligations.BootOverlay := by
  have region {a : Word} (low : a.toNat < 0x0100) : classify a = .romBank0 :=
    (classify_romBank0 a).mpr ⟨Nat.zero_le _, by omega⟩
  refine ⟨fun s a v low clear => ?_, fun s a low latched => ?_, fun s t latched next => ?_⟩
  · have stored := memWrite_rom s a v (by omega)
    have overlay (m : State) (clear : m.bootOff = false) : m.memRead a = m.boot.read a.toNat := by
      simp only [State.memRead, region low, low, clear, and_self, if_true]
    rw [stored, overlay s clear]
    exact ⟨rfl, overlay (s.setRom _) clear, rfl⟩
  · simp only [State.memRead, region low, latched, Bool.true_eq_false, and_false, if_false]
  · obtain ⟨u, run, rfl⟩ := step_eq_next next
    rw [setPpu_bootOff, timerUpdate_bootOff]
    exact run.induction (P := fun m => m.bootOff = true) (fun _ _ h => h) (fun m a v h => (memWrite_stored m a v).bootOff_true h)
      ((beginStep_bootOff s).trans latched) (fun _ => (beginStep_bootOff s).trans latched)

/-- What the serial capture may come to from `s` on: bytes added at its end, none while capture is off. -/
def SerialGrown (s m : State) : Prop :=
  m.params = s.params ∧ ∃ out, m.serialOut = s.serialOut ++ out ∧ (s.params.serialCapture = false → out = [])

theorem SerialGrown.memWrite {s m : State} (a : Word) (v : Byte) (grown : SerialGrown s m) :
    SerialGrown s (m.memWrite a v) := by
  obtain ⟨params, out, serial, off⟩ := grown
  refine ⟨(memWrite_params m a v).trans params, ?_⟩
  by_cases sb : a = 0xFF01
  · have stored : (m.memWrite a v).serialOut = if s.params.serialCapture = true then m.serialOut ++ [v] else m.serialOut := by
      rw [sb, ← params]
      rfl
    rw [stored, serial]
    cases capture : s.params.serialCapture with
    | true => exact ⟨out ++ [v], by simp, nofun⟩
    | false => exact ⟨out, by simp, fun _ => off capture⟩
  · rw [(memWrite_stored m a v).serialOut_eq sb]
    exact ⟨out, serial, off⟩

/-- Settles O58: only a store to SB changes the capture, and only the sample the stream. -/
theorem serialGrowsAndInputsAdvance : Obligations.SerialGrowsAndInputsAdvance := by
  intro s t next
  obtain ⟨u, run, rfl⟩ := step_eq_next next
  have start : SerialGrown s s.beginStep :=
    ⟨beginStep_params s, [], by rw [beginStep_serialOut, List.append_nil], fun _ => rfl⟩
  obtain ⟨params, serial⟩ : SerialGrown s u :=
    run.induction (P := SerialGrown s) (fun _ _ h => h) (fun m a v h => h.memWrite a v) start (fun _ => start)
  have stream : u.joyInput = s.joyInput.tail :=
    run.induction (P := fun m => m.joyInput = s.joyInput.tail) (fun _ _ h => h)
      (fun m a v h => (memWrite_joyInput m a v).trans h) (beginStep_joyInput s) (fun _ => beginStep_joyInput s)
  rw [setPpu_serialOut, timerUpdate_serialOut, setPpu_joyInput, timerUpdate_joyInput, setPpu_params, timerUpdate_params]
  exact ⟨serial, stream, params⟩

/-! ## The invariant -/

/-- The part of the invariant that is about memory and the registers at addresses (10_state.md R20, R32, R34). -/
structure MemoryInv (m : State) : Prop where
  arrays : ArraysWf m
  ifl : m.ifl &&& 0xE0 = 0xE0
  tac : m.tac &&& 0xF8 = 0xF8

/-- Bits that are 1 stay so when others are set. -/
theorem or_and_of_ones {v mask : Byte} (w : Byte) (ones : v &&& mask = mask) : (v ||| w) &&& mask = mask := by
  apply BitVec.eq_of_getLsbD_eq
  intro i _
  have bit : (v.getLsbD i && mask.getLsbD i) = mask.getLsbD i := by rw [← BitVec.getLsbD_and, ones]
  rw [BitVec.getLsbD_and, BitVec.getLsbD_or, Bool.and_or_distrib_right, bit]
  cases mask.getLsbD i <;> simp

/-- A store to IF forces its bits 7 to 5 to 1 (20_memory.md R90). -/
theorem Stored.ifl_ones {s t : State} {a : Word} {v : Byte} (stored : Stored s v a t) (ones : s.ifl &&& 0xE0 = 0xE0) :
    t.ifl &&& 0xE0 = 0xE0 := by
  cases stored with
  | ifReg => exact BitVec.or_comm v 0xE0 ▸ or_and_of_ones v rfl
  | _ => exact ones

/-- A store to TAC forces its bits 7 to 3 to 1 (20_memory.md R89). -/
theorem Stored.tac_ones {s t : State} {a : Word} {v : Byte} (stored : Stored s v a t) (ones : s.tac &&& 0xF8 = 0xF8) :
    t.tac &&& 0xF8 = 0xF8 := by
  cases stored with
  | tac => exact BitVec.or_comm v 0xF8 ▸ or_and_of_ones v rfl
  | _ => exact ones

theorem MemoryInv.memWrite {m : State} (a : Word) (v : Byte) (inv : MemoryInv m) : MemoryInv (m.memWrite a v) where
  arrays := memWrite_arrays a v inv.arrays
  ifl := (memWrite_stored m a v).ifl_ones inv.ifl
  tac := (memWrite_stored m a v).tac_ones inv.tac

theorem MemoryInv.beginStep {s : State} (inv : MemoryInv s) : MemoryInv s.beginStep := by
  obtain ⟨w, ifl⟩ := beginStep_ifl s
  refine ⟨inv.arrays.congr ?_ ?_ ?_ ?_ ?_ ?_ ?_, ifl ▸ or_and_of_ones w inv.ifl, (beginStep_tac s).symm ▸ inv.tac⟩ <;> simp

/-- Acknowledging clears one of the bits below the forced ones. -/
theorem MemoryInv.acknowledge {s : State} (src : IntSource) (inv : MemoryInv s) : MemoryInv (s.acknowledge src) where
  arrays := inv.arrays.congr rfl rfl rfl rfl rfl rfl rfl
  ifl := by
    have outside : ~~~((1 : Byte) <<< src.bit) &&& 0xE0 = 0xE0 := by cases src <;> decide
    calc
      (s.ifl &&& ~~~((1 : Byte) <<< src.bit)) &&& 0xE0 = s.ifl &&& (~~~((1 : Byte) <<< src.bit) &&& 0xE0) :=
        BitVec.and_assoc ..
      _ = 0xE0 := by rw [outside, inv.ifl]
  tac := inv.tac

/-- Settles O54: stores, the first phases and the timer update keep the memory's part, and the timer update catches up. -/
theorem stepKeepsInvariant : Obligations.StepKeepsInvariant := by
  intro s t inv next
  obtain ⟨u, run, rfl⟩ := step_eq_next next
  have start : MemoryInv s.beginStep := MemoryInv.beginStep ⟨inv.arrays, inv.ifl, inv.tac⟩
  have memory : MemoryInv u :=
    run.induction (P := MemoryInv) (fun m t h => ⟨h.arrays.congr rfl rfl rfl rfl rfl rfl rfl, h.ifl, h.tac⟩)
      (fun m a v h => h.memWrite a v) start (fun src => start.acknowledge src)
  have rest : u.lastTimerUpdate = s.lastTimerUpdate ∧ u.faulted = false :=
    run.induction (P := fun m => m.lastTimerUpdate = s.lastTimerUpdate ∧ m.faulted = false) (fun _ _ h => h)
      (fun m a v h => by simpa using h) (by simp [inv.running]) (fun _ => by simp [State.acknowledge, inv.running])
  obtain ⟨w, ifl⟩ := timerUpdate_ifl u
  have timer := inv.timer
  have least := run.least
  exact
    { arrays := memory.arrays.congr (timerUpdate_rom u) (timerUpdate_boot u) (timerUpdate_xram u) (timerUpdate_wram u)
        (timerUpdate_oam u) (timerUpdate_io u) (timerUpdate_hram u)
      ifl := ifl ▸ or_and_of_ones w memory.ifl
      tac := (timerUpdate_tac u).symm ▸ memory.tac
      timer := by simp; omega
      running := (timerUpdate_faulted u).trans rest.2 }

/-- Settles O55: nothing is stored, and the forced bits are the construction's. -/
theorem resetMeetsInvariant : Obligations.ResetMeetsInvariant :=
  ⟨reset_arrays, rfl, rfl, rfl, rfl⟩

end Sys2Proof.Machine
end

section
/-! The stack, signed displacements, DAA, the accumulator rotates and the rest of control transfer (41_load16_stack.md R230 to R238,
42_alu8.md R264, 43_alu16.md R281, 44_rotate_shift.md section 1, 46_control.md, 47_system.md): encodings and meanings. -/

namespace Sys2Proof.Machine

/-! ## Encodings -/

theorem encodes_push (p : StackPair) : Encodes (Instr.push p) [0xC5 + 16 * p.code] 16 := by
  cases p <;> exact encodes_slot1 rfl rfl

theorem encodes_pop (p : StackPair) : Encodes (Instr.pop p) [0xC1 + 16 * p.code] 12 := by
  cases p <;> exact encodes_slot1 rfl rfl

theorem encodes_jpCond (cc : Cond) (nn : Word) :
    Encodes (Instr.jpCond cc nn) [0xC2 + 8 * cc.code, loByte nn, hiByte nn] 12 := by
  cases cc <;> exact encodes_slot3 rfl rfl

theorem encodes_jrCond (cc : Cond) (e : Byte) : Encodes (Instr.jrCond cc e) [0x20 + 8 * cc.code, e] 8 := by
  cases cc <;> exact encodes_slot2 rfl rfl

theorem encodes_callCond (cc : Cond) (nn : Word) :
    Encodes (Instr.callCond cc nn) [0xC4 + 8 * cc.code, loByte nn, hiByte nn] 12 := by
  cases cc <;> exact encodes_slot3 rfl rfl

theorem encodes_retCond (cc : Cond) : Encodes (Instr.retCond cc) [0xC0 + 8 * cc.code] 8 := by
  cases cc <;> exact encodes_slot1 rfl rfl

theorem encodes_rst (y : Fin 8) : Encodes (Instr.rst y) [0xC7 + 8 * BitVec.ofNat 8 y.val] 16 := by
  fin_cases y <;> exact encodes_slot1 rfl rfl

/-! ## 16-bit loads and the stack -/

/-- Settles O25: the two byte stores of a 16-bit store, low byte first. -/
theorem storeSpForm : Obligations.StoreSpForm :=
  fun _ => ⟨encodes_slot3 rfl rfl, fun _ => rfl⟩

/-- Settles O26: both forms share one computation, whose signed sum is the sum with the sign-extended byte. -/
theorem spDisplacementForms : Obligations.SpDisplacementForms := by
  simp only [Obligations.SpDisplacementForms, ofInt_toNat_add_toInt]
  exact fun e => ⟨encodes_slot2 rfl rfl, encodes_slot2 rfl rfl, fun s => ⟨rfl, rfl⟩⟩

/-- The packed flags as the number they make (10_state.md R24). -/
theorem packFlags_eq_ofNat (f : Flags) :
    packFlags f = BitVec.ofNat 8 (128 * f.z.toNat + 64 * f.n.toNat + 32 * f.h.toNat + 16 * f.c.toNat) := by
  rw [← toNat_packFlags, BitVec.ofNat_toNat, BitVec.setWidth_eq]

/-- Settles O27: a push of the pair's two bytes, AF's low one being the packed flags. -/
theorem pushForms : Obligations.PushForms := by
  refine fun p => ⟨encodes_push p, fun s => ?_⟩
  rw [exec_push, pushPair, push16_eq, ← packFlags_eq_ofNat]
  cases p <;> simp only [stackPairReg, State.pair, hiByte_wordOf, loByte_wordOf]

/-- Settles O28: a pop's two bytes written to the pair, F unpacked for AF. -/
theorem popForms : Obligations.PopForms := by
  refine fun p => ⟨encodes_pop p, fun s => ?_⟩
  rw [exec_pop, popPair, pop16_eq]
  cases p <;> simp only [stackPairReg, State.setPair, hiByte_wordOf, loByte_wordOf, unpackFlags]

/-! ## DAA and the accumulator rotates -/

/-- A byte plus an exact correction, truncated, is the sum of bytes. -/
theorem ofNat_add_corrections (a : Byte) (high low : Bool) :
    BitVec.ofNat 8 (a.toNat + 0x60 * high.toNat + 0x06 * low.toNat) =
      a + (if high then 0x60 else 0) + (if low then 0x06 else 0) := by
  rw [BitVec.ofNat_add, BitVec.ofNat_add, BitVec.ofNat_toNat, BitVec.setWidth_eq]
  cases high <;> cases low <;> rfl

theorem ofInt_sub_corrections (a : Byte) (high low : Bool) :
    BitVec.ofInt 8 (a.toNat - 0x60 * high.toNat - 0x06 * low.toNat) =
      a - (if high then 0x60 else 0) - (if low then 0x06 else 0) := by
  simp only [Int.sub_eq_add_neg, BitVec.sub_eq_add_neg, BitVec.ofInt_add, BitVec.ofInt_neg, BitVec.ofInt_natCast,
    BitVec.ofNat_toNat, BitVec.setWidth_eq]
  cases high <;> cases low <;> rfl

theorem daaResult_add {a : Byte} {f : Flags} (added : f.n = false) :
    let r : Byte :=
      a + (if f.c = true ∨ a.toNat > 0x99 then 0x60 else 0) + (if f.h = true ∨ a.toNat % 16 > 9 then 0x06 else 0)
    daaResult a f = (r, { z := r == 0, n := false, h := false, c := decide (f.c = true ∨ a.toNat > 0x99) }) := by
  simp only [daaResult, added, ofNat_add_corrections, Bool.false_eq_true, if_false, Bool.or_eq_true, decide_eq_true_eq,
    Bool.decide_or, Bool.decide_eq_true]

theorem daaResult_subtract {a : Byte} {f : Flags} (subtracted : f.n = true) :
    let r : Byte := a - (if f.c = true then 0x60 else 0) - (if f.h = true then 0x06 else 0)
    daaResult a f = (r, { z := r == 0, n := true, h := false, c := f.c }) := by
  simp only [daaResult, subtracted, ofInt_sub_corrections, if_true]

theorem exec_daa_of_result {s : State} {r : Byte} {f : Flags} (result : daaResult s.regs.a s.flags = (r, f)) :
    exec .daa s = .next ((s.setReg .a r).setFlags f) := by
  change execDaa s = _
  rw [execDaa, State.reg, result]

/-- Settles O33: the corrections of an addition are added, those of a subtraction subtracted. -/
theorem decimalAdjust : Obligations.DecimalAdjust :=
  ⟨encodes_slot1 rfl rfl, fun _ added => exec_daa_of_result (daaResult_add added),
    fun _ subtracted => exec_daa_of_result (daaResult_subtract subtracted)⟩

/-- Settles O36: the results of the extended rotates, with Z always clear. -/
theorem accumulatorRotates : Obligations.AccumulatorRotates := by
  refine ⟨encodes_slot1 rfl rfl, encodes_slot1 rfl rfl, encodes_slot1 rfl rfl, encodes_slot1 rfl rfl, fun s => ?_⟩
  have run (op : RotOp) {i : Instr} {n : Nat} {out : Bool} (runs : exec i s = rotateAcc op s)
      (result : rotResult op s.regs.a s.flags.c = (BitVec.ofNat 8 n, out)) :
      exec i s =
        .next ((s.setReg .a (BitVec.ofNat 8 n)).setFlags { z := false, n := false, h := false, c := out }) := by
    rw [runs, rotateAcc, State.reg, accRotFlags, result]
  exact ⟨run .rlc rfl (rotResult_rlc _ _), run .rrc rfl (rotResult_rrc _ _), run .rl rfl (rotResult_rl _ _),
    run .rr rfl (rotResult_rr _ _)⟩

/-! ## Control transfer -/

section

variable {s : State} {cc : Cond}

theorem condHolds_of_taken (taken : Taken cc s) : condHolds cc s.flags = true :=
  (condHolds_iff cc s).mpr taken

theorem condHolds_of_not_taken (notTaken : ¬ Taken cc s) : ¬ condHolds cc s.flags = true :=
  mt (condHolds_iff cc s).mp notTaken

end

/-- Settles O41: a taken jump sets PC and charges 4 cycles, one not taken answers the state before. -/
theorem conditionalJumps : Obligations.ConditionalJumps := by
  simp only [Obligations.ConditionalJumps, ofInt_toNat_add_toInt, exec_jpCond, exec_jrCond, jumpIf]
  exact ⟨encodes_jpCond, encodes_jrCond,
    fun _ _ _ => ⟨fun taken => if_pos (condHolds_of_taken taken), fun no => if_neg (condHolds_of_not_taken no)⟩,
    fun _ _ _ => ⟨fun taken => if_pos (condHolds_of_taken taken), fun no => if_neg (condHolds_of_not_taken no)⟩⟩

/-- Settles O42: calls and restarts are a push and a jump, returns a pop into PC. -/
theorem callsAndReturns : Obligations.CallsAndReturns := by
  simp only [Obligations.CallsAndReturns, ← push16_eq, ← popPc_eq]
  exact ⟨fun _ => encodes_slot3 rfl rfl, encodes_slot1 rfl rfl, encodes_slot1 rfl rfl, encodes_rst,
    fun s => ⟨fun _ => rfl, fun y => exec_rst y s, rfl, rfl⟩⟩

/-- Settles O43: taken, the call or the return with 12 cycles more, and otherwise the state before. -/
theorem conditionalCallsAndReturns : Obligations.ConditionalCallsAndReturns := by
  refine ⟨encodes_callCond, encodes_retCond, fun s cc => ⟨fun taken => ⟨fun nn => ?_, ?_⟩, fun no => ⟨fun nn => ?_, ?_⟩⟩⟩
  · rw [exec_callCond, callIf, if_pos (condHolds_of_taken taken), State.charge, setPc_cycles, push16_cycles, push16_eq]
  · rw [exec_retCond, returnIf, if_pos (condHolds_of_taken taken), State.charge, popPc_cycles, popPc_eq]
  · rw [exec_callCond, callIf, if_neg (condHolds_of_not_taken no)]
  · rw [exec_retCond, returnIf, if_neg (condHolds_of_not_taken no)]

/-- Storage is neither in the PPU's window nor the boot latch. -/
theorem isStorage_elsewhere {s : State} {a : Word} (storage : s.isStorage a = true) :
    inPpuWindow a = false ∧ a ≠ 0xFF50 := by
  refine ⟨Bool.eq_false_iff.mpr fun window => ?_, ?_⟩
  · rw [inPpuWindow, decide_eq_true_eq] at window
    rcases window with vram | register
    · simp [State.isStorage, (classify_vram a).mpr vram] at storage
    · simp [State.isStorage, (classify_ioRegisters a).mpr (by omega), (ioReg_ppuReg a).mpr register] at storage
  · rintro rfl
    nomatch (show false = true from storage)

/-- Neighbours are no two addresses of one byte of work RAM. -/
theorem workRamOffset_add_one {a : Word} {k : Nat} (offset : workRamOffset a = some k) :
    workRamOffset (a + 1) ≠ some k := by
  unfold workRamOffset at offset ⊢
  have next : a.toNat < 0xFFFF → (a + 1).toNat = a.toNat + 1 := fun small => by
    rw [BitVec.toNat_add]
    exact Nat.mod_eq_of_lt (by simpa using by omega)
  split at offset
  · have value := Option.some_inj.mp offset
    rw [next (by omega)]
    split
    · simp only [ne_eq, Option.some_inj]
      omega
    · split <;> simp only [ne_eq, Option.some_inj, reduceCtorEq, not_false_eq_true]
      omega
  · split at offset
    · have value := Option.some_inj.mp offset
      rw [next (by omega), if_neg (by omega)]
      split <;> simp only [ne_eq, Option.some_inj, reduceCtorEq, not_false_eq_true]
      omega
    · nomatch offset

/-- A store to storage does not reach the byte above it. -/
theorem storeReaches_add_one {s : State} {a : Word} (storage : s.isStorage a = true) :
    storeReaches a (a + 1) = false := by
  obtain ⟨window, latch⟩ := isStorage_elsewhere storage
  rw [storeReaches, if_neg (by simp [window]), if_neg latch]
  split
  · rename_i k offset
    exact decide_eq_false (workRamOffset_add_one offset)
  · exact decide_eq_false (by simp)

/-- What is pushed onto storage is popped again (41_load16_stack.md R230). -/
theorem pop16_push16 {s : State} (v : Word) (arrays : ArraysWf s) (high : s.isStorage (s.sp - 1) = true)
    (low : s.isStorage (s.sp - 2) = true) : (s.push16 v).pop16.1 = v := by
  have above : s.sp - 2 + 1 = s.sp - 1 := by rw [← word_sub_one_sub_one, BitVec.sub_add_cancel]
  have stays : (s.memWrite (s.sp - 1) (hiByte v)).isStorage (s.sp - 2) = true := by
    rw [State.isStorage, (memWrite_stored s _ _).bootOff_eq (isStorage_elsewhere high).2]
    exact low
  have lowByte := storageReadsBack _ _ (loByte v) (memWrite_arrays (s.sp - 1) (hiByte v) arrays) stays
  have apart : storeReaches (s.sp - 2) (s.sp - 1) = false := above ▸ storeReaches_add_one low
  have highByte := memRead_memWrite_other (s.memWrite (s.sp - 1) (hiByte v)) (loByte v) apart
  rw [storageReadsBack s _ (hiByte v) arrays high] at highByte
  rw [push16_eq, pop16_eq, memRead_setSp, memRead_setSp, setSp_sp, above, lowByte, highByte, wordOf_hiByte_loByte]

/-- Settles O44: the return pops the address the call pushed, and SP comes back. -/
theorem callThenReturn : Obligations.CallThenReturn := by
  intro nn s arrays high low
  let t := (s.push16 s.pc).setPc nn
  have popped : t.popPc.pc = (s.push16 s.pc).pop16.1 := by
    simp only [t, popPc_eq, pop16_eq, setPc_pc, setPc_sp, memRead_setPc]
  have sp : t.popPc.sp = s.sp := by
    simp [t, popPc_eq, push16_eq]
  exact ⟨t, t.popPc, rfl, rfl, rfl, popped.trans (pop16_push16 s.pc arrays high low), sp⟩

/-! ## System instructions -/

/-- Settles O45: four table slots and the control bit each instruction sets. -/
theorem systemOperations : Obligations.SystemOperations :=
  ⟨encodes_slot1 rfl rfl, encodes_slot1 rfl rfl, encodes_slot1 rfl rfl, encodes_slot1 rfl rfl,
    fun _ => ⟨rfl, rfl, rfl, rfl⟩⟩

end Sys2Proof.Machine
end

section
/-! Construction, loading and saving (70_reset_and_hazards.md R500 to R505). -/

namespace Sys2Proof.Machine

/-! ## Construction and simulated boot -/

/-- Every byte of storage reads 0 after construction, and so does the boot ROM (10_state.md R20). -/
theorem reset_memRead {a : Word} (zeroed : State.reset.isStorage a = true ∨ a.toNat < 0x0100) :
    State.reset.memRead a = 0x00 := by
  rcases classify_cases a with ⟨hc, lo, hi⟩ | ⟨hc, lo, hi⟩ | ⟨hc, lo, hi⟩ | ⟨hc, lo, hi⟩ | ⟨hc, lo, hi⟩ | ⟨hc, lo, hi⟩ |
    ⟨hc, lo, hi⟩ | ⟨hc, lo, hi⟩ | ⟨hc, lo, hi⟩ | ⟨hc, lo, hi⟩ | ⟨hc, lo, hi⟩ | ⟨hc, lo, hi⟩ <;>
    simp only [State.isStorage, hc] at zeroed <;> simp only [State.memRead, hc]
  · split <;> rfl
  · rfl
  · exact absurd zeroed (by simp; omega)
  · rfl
  · rfl
  · rfl
  · rfl
  · rfl
  · exact absurd zeroed (by simp; omega)
  · have register := zeroed.resolve_right (by omega)
    simp only [Bool.or_eq_true, beq_iff_eq] at register
    rcases register with (plain | sb) | sc
    · simp only [State.fetchIo, plain]
      rfl
    · simp only [State.fetchIo, sb]
      rfl
    · simp only [State.fetchIo, sc]
      rfl
  · rfl
  · exact absurd zeroed (by simp; omega)

/-- Settles O59: the construction record field by field, its storage read through the map, and the fields simulated boot sets. -/
theorem resetAndSimulatedBoot : Obligations.ResetAndSimulatedBoot :=
  ⟨fun r => by cases r <;> rfl, rfl, rfl, rfl, rfl, rfl, rfl, rfl, rfl, rfl, rfl, rfl, rfl, rfl, rfl, rfl, rfl, rfl, rfl, rfl,
    fun _ => ⟨rfl, rfl, rfl, rfl, rfl, rfl, rfl⟩, fun _ => reset_memRead,
    fun _ => ⟨show wordOf 0x01 (packFlags ⟨true, false, true, true⟩) = 0x01B0 from rfl,
      show wordOf 0x00 0x13 = 0x0013 from rfl,
      show wordOf 0x00 0xD8 = 0x00D8 from rfl, show wordOf 0x01 0x4D = 0x014D from rfl, rfl, rfl, rfl, rfl⟩⟩

/-! ## Loading -/

theorem Memory.read_append_left (xs : Memory) {ys : Memory} {a : Nat} (absent : ∀ y ∈ ys, y.1 ≠ a) :
    Memory.read (xs ++ ys) a = xs.read a := by
  induction xs with
  | nil => exact Memory.read_eq_unlisted ys a absent
  | cons x rest ih => simp only [List.cons_append, Memory.read, ih]

theorem Memory.read_append_right {xs : Memory} (ys : Memory) {a : Nat} (absent : ∀ x ∈ xs, x.1 ≠ a) :
    Memory.read (xs ++ ys) a = ys.read a := by
  induction xs with
  | nil => rfl
  | cons x rest ih =>
    rw [List.cons_append, Memory.read, if_neg (absent x (by simp))]
    exact ih fun y hy => absent y (by simp [hy])

/-- The cells from an offset on read as the array does there. -/
theorem Memory.read_filter_le (m : Memory) {n a : Nat} (above : n ≤ a) :
    Memory.read (m.filter fun x => decide (n ≤ x.1)) a = m.read a := by
  induction m with
  | nil => rfl
  | cons x rest ih =>
    by_cases kept : n ≤ x.1
    · rw [List.filter_cons_of_pos (by simpa using kept), Memory.read, Memory.read, ih]
    · rw [List.filter_cons_of_neg (by simpa using kept), ih, Memory.read, if_neg (by omega)]

theorem Memory.read_copyIn_of_lt (m : Memory) {bytes : List Byte} {i : Nat} (covered : i < bytes.length) :
    (m.copyIn bytes).read i = bytes[i] := by
  have absent : ∀ y ∈ m.filter fun x => decide (bytes.length ≤ x.1), y.1 ≠ i := by
    intro y hy
    have := (List.mem_filter.mp hy).2
    simp only [decide_eq_true_eq] at this
    omega
  have loaded := Memory.read_ofBytes 0 i bytes covered
  rw [Nat.zero_add] at loaded
  rw [Memory.copyIn, Memory.read_append_left _ absent, loaded]

theorem Memory.read_copyIn_of_le (m : Memory) {bytes : List Byte} {i : Nat} (beyond : bytes.length ≤ i) :
    (m.copyIn bytes).read i = m.read i := by
  have absent : ∀ x ∈ Memory.ofBytes 0 bytes, x.1 ≠ i := by
    intro x hx
    have := Memory.ofBytes_within bytes x hx
    omega
  rw [Memory.copyIn, Memory.read_append_right _ absent, Memory.read_filter_le m beyond]

/-- Settles O60: the loads by their conditions, the loaded bytes read back, and each saved register restored from its bytes. -/
theorem loadingAndSaving : Obligations.LoadingAndSaving := by
  refine ⟨fun s bytes exact => ?_, fun s bytes other => if_neg other, fun s bytes fits mark => ?_, fun s bytes long => if_pos long,
    fun s bytes fits mark => ?_, fun s t => ?_⟩
  · refine ⟨_, if_pos exact, rfl, fun a covered clear => ?_⟩
    have overlay := (bootOverlay.1 (s.setBoot (Memory.ofBytes 0 bytes)) a 0 (exact ▸ covered) clear).1
    have loaded := Memory.read_ofBytes 0 a.toNat bytes covered
    rw [Nat.zero_add] at loaded
    exact overlay.trans loaded
  · refine ⟨s.setRom (s.rom.copyIn bytes), ?_, rfl, fun i => Memory.read_copyIn_of_lt s.rom,
      fun i => Memory.read_copyIn_of_le s.rom⟩
    rw [State.loadRom, if_neg (by omega), if_neg mark]
  · rw [State.loadRom, if_neg (by omega), if_pos mark]
  · simp only [State.saveRegisters, State.restoreRegisters, unpackFlags_packFlags, wordOf_hiByte_loByte]

end Sys2Proof.Machine
end
